-- ==== Sys2Proof/Word.lean ====
section
/-! DEFINITION. The two word types of the core: 8-bit data and 16-bit pointers (00_scope.md R9, R12). -/

namespace Sys2Proof

/-- A byte: 8 bits, bit 0 least significant (R12). -/
abbrev Byte := BitVec 8

/-- A word: 16 bits (R12). Arithmetic on SP and PC wraps modulo 65536 (R9). -/
abbrev Word := BitVec 16

end Sys2Proof
end

