-- ==== Sys2Proof/Machine/Bytes.lean ====
section
/-! DEFINITION. Byte order and extension: `hi:lo` (00_scope.md R12), `sext_16` (R13), little-endian halves (20_memory.md R170). -/

namespace Sys2Proof.Machine

/-- `hi:lo`, the word `hi * 256 + lo` (R12). -/
def wordOf (hi lo : Byte) : Word := hi ++ lo

/-- `v[15:8]` (R12). -/
def hiByte (v : Word) : Byte := v.extractLsb' 8 8

/-- `v[7:0]` (R12). -/
def loByte (v : Word) : Byte := v.extractLsb' 0 8

/-- `sext_16(e)`: bits 15..8 copy bit 7 (R13). -/
def sext16 (e : Byte) : Word := e.signExtend 16

/-- The high-page address `0xFF00 + a8` (30_encoding.md R187). -/
def highPage (a8 : Byte) : Word := wordOf 0xFF#8 a8

/-- A Bool as the number 0 or 1 (R18: a flag holds 1 when its condition is true). -/
def bitNat (b : Bool) : Nat := if b then 1 else 0

end Sys2Proof.Machine
end

