-- ==== Sys2Proof/Syntax.lean ====
section
/-! DEFINITION. The instruction set as syntax: the operand fields of 30_encoding.md R182-R186 and `Instr`, one constructor per row of spec/opcode_table.json. -/

namespace Sys2Proof

/-- The seven 8-bit registers an operand can name (10_state.md R40; 30_encoding.md R183). -/
inductive Reg8 where
  | b | c | d | e | h | l | a
  deriving DecidableEq, Repr

/-- The eight operand locations (R183): a register, or the byte at address HL. -/
inductive Loc where
  | reg (r : Reg8)
  | indHl
  deriving DecidableEq, Repr

/-- The source operand of an 8-bit ALU operation (41_alu8.md R250). -/
inductive Src where
  | reg (r : Reg8)
  | indHl
  | imm (d8 : Byte)
  deriving DecidableEq, Repr

/-- `rp` (R184): pairs of 16-bit loads, `INC`, `DEC` and `ADD HL`. -/
inductive Rp where
  | bc | de | hl | sp
  deriving DecidableEq, Repr

/-- `rp2` (R184): pairs of `PUSH` and `POP`. -/
inductive Rp2 where
  | bc | de | hl | af
  deriving DecidableEq, Repr

/-- The address operand of the one-byte `LD A,(..)` and `LD (..),A` forms (40_loads.md R205-R212). -/
inductive Ptr where
  | bc | de | hlInc | hlDec
  deriving DecidableEq, Repr

/-- The branch condition `cc` (R185). -/
inductive Cond where
  | nz | z | nc | c
  deriving DecidableEq, Repr

/-- The ALU-operation field (R186). -/
inductive AluOp where
  | add | adc | sub | sbc | and | xor | or | cp
  deriving DecidableEq, Repr

/-- The rotate and shift field of the extended table (R186). -/
inductive ShiftOp where
  | rlc | rrc | rl | rr | sla | sra | swap | srl
  deriving DecidableEq, Repr

/-- A three-bit field read as a number 0..7: a bit number, or `y` of `RST` (R187). -/
inductive Oct where
  | n0 | n1 | n2 | n3 | n4 | n5 | n6 | n7
  deriving DecidableEq, Repr

/-- The instructions: one constructor per row of spec/opcode_table.json (30_encoding.md R189, R195).
An immediate operand is the constructor's argument: a byte for d8, e8, a8 and the ignored byte of `STOP`,
a word for d16 and a16 (R187). The rows with an immediate stand first, then the table's order: Lean's
compiler numbers constructors that carry data below 245. -/
inductive Instr where
  /-- `LD BC,d16`: R219. -/
  | ldBcD16 (v : Word)
  /-- `LD B,d8`: R203. -/
  | ldBD8 (v : Byte)
  /-- `LD (a16),SP`: R220. -/
  | ldIndA16Sp (v : Word)
  /-- `LD C,d8`: R203. -/
  | ldCD8 (v : Byte)
  /-- `STOP`: R382. -/
  | stop (v : Byte)
  /-- `LD DE,d16`: R219. -/
  | ldDeD16 (v : Word)
  /-- `LD D,d8`: R203. -/
  | ldDD8 (v : Byte)
  /-- `JR e8`: R354. -/
  | jrE8 (v : Byte)
  /-- `LD E,d8`: R203. -/
  | ldED8 (v : Byte)
  /-- `JR NZ,e8`: R355. -/
  | jrNzE8 (v : Byte)
  /-- `LD HL,d16`: R219. -/
  | ldHlD16 (v : Word)
  /-- `LD H,d8`: R203. -/
  | ldHD8 (v : Byte)
  /-- `JR Z,e8`: R355. -/
  | jrZE8 (v : Byte)
  /-- `LD L,d8`: R203. -/
  | ldLD8 (v : Byte)
  /-- `JR NC,e8`: R355. -/
  | jrNcE8 (v : Byte)
  /-- `LD SP,d16`: R219. -/
  | ldSpD16 (v : Word)
  /-- `LD (HL),d8`: R204. -/
  | ldIndHlD8 (v : Byte)
  /-- `JR C,e8`: R355. -/
  | jrCE8 (v : Byte)
  /-- `LD A,d8`: R203. -/
  | ldAD8 (v : Byte)
  /-- `JP NZ,a16`: R352. -/
  | jpNzA16 (v : Word)
  /-- `JP a16`: R351. -/
  | jpA16 (v : Word)
  /-- `CALL NZ,a16`: R357. -/
  | callNzA16 (v : Word)
  /-- `ADD A,d8`: R251. -/
  | addAD8 (v : Byte)
  /-- `JP Z,a16`: R352. -/
  | jpZA16 (v : Word)
  /-- `CALL Z,a16`: R357. -/
  | callZA16 (v : Word)
  /-- `CALL a16`: R356. -/
  | callA16 (v : Word)
  /-- `ADC A,d8`: R252. -/
  | adcAD8 (v : Byte)
  /-- `JP NC,a16`: R352. -/
  | jpNcA16 (v : Word)
  /-- `CALL NC,a16`: R357. -/
  | callNcA16 (v : Word)
  /-- `SUB d8`: R253. -/
  | subD8 (v : Byte)
  /-- `JP C,a16`: R352. -/
  | jpCA16 (v : Word)
  /-- `CALL C,a16`: R357. -/
  | callCA16 (v : Word)
  /-- `SBC A,d8`: R254. -/
  | sbcAD8 (v : Byte)
  /-- `LDH (a8),A`: R213. -/
  | ldhIndA8A (v : Byte)
  /-- `AND d8`: R255. -/
  | andD8 (v : Byte)
  /-- `ADD SP,e8`: R293. -/
  | addSpE8 (v : Byte)
  /-- `LD (a16),A`: R217. -/
  | ldIndA16A (v : Word)
  /-- `XOR d8`: R256. -/
  | xorD8 (v : Byte)
  /-- `LDH A,(a8)`: R214. -/
  | ldhAIndA8 (v : Byte)
  /-- `OR d8`: R257. -/
  | orD8 (v : Byte)
  /-- `LD HL,SP+e8`: R294. -/
  | ldHlSpE8 (v : Byte)
  /-- `LD A,(a16)`: R218. -/
  | ldAIndA16 (v : Word)
  /-- `CP d8`: R258. -/
  | cpD8 (v : Byte)
  /-- `NOP`: R380. -/
  | nop
  /-- `LD (BC),A`: R207. -/
  | ldIndBcA
  /-- `INC BC`: R290. -/
  | incBc
  /-- `INC B`: R259. -/
  | incB
  /-- `DEC B`: R261. -/
  | decB
  /-- `RLCA`: R310. -/
  | rlca
  /-- `ADD HL,BC`: R292. -/
  | addHlBc
  /-- `LD A,(BC)`: R205. -/
  | ldAIndBc
  /-- `DEC BC`: R291. -/
  | decBc
  /-- `INC C`: R259. -/
  | incC
  /-- `DEC C`: R261. -/
  | decC
  /-- `RRCA`: R311. -/
  | rrca
  /-- `LD (DE),A`: R208. -/
  | ldIndDeA
  /-- `INC DE`: R290. -/
  | incDe
  /-- `INC D`: R259. -/
  | incD
  /-- `DEC D`: R261. -/
  | decD
  /-- `RLA`: R312. -/
  | rla
  /-- `ADD HL,DE`: R292. -/
  | addHlDe
  /-- `LD A,(DE)`: R206. -/
  | ldAIndDe
  /-- `DEC DE`: R291. -/
  | decDe
  /-- `INC E`: R259. -/
  | incE
  /-- `DEC E`: R261. -/
  | decE
  /-- `RRA`: R313. -/
  | rra
  /-- `LD (HL+),A`: R211. -/
  | ldIndHlIncA
  /-- `INC HL`: R290. -/
  | incHl
  /-- `INC H`: R259. -/
  | incH
  /-- `DEC H`: R261. -/
  | decH
  /-- `DAA`: R263. -/
  | daa
  /-- `ADD HL,HL`: R292. -/
  | addHlHl
  /-- `LD A,(HL+)`: R209. -/
  | ldAIndHlInc
  /-- `DEC HL`: R291. -/
  | decHl
  /-- `INC L`: R259. -/
  | incL
  /-- `DEC L`: R261. -/
  | decL
  /-- `CPL`: R264. -/
  | cpl
  /-- `LD (HL-),A`: R212. -/
  | ldIndHlDecA
  /-- `INC SP`: R290. -/
  | incSp
  /-- `INC (HL)`: R260. -/
  | incIndHl
  /-- `DEC (HL)`: R262. -/
  | decIndHl
  /-- `SCF`: R265. -/
  | scf
  /-- `ADD HL,SP`: R292. -/
  | addHlSp
  /-- `LD A,(HL-)`: R210. -/
  | ldAIndHlDec
  /-- `DEC SP`: R291. -/
  | decSp
  /-- `INC A`: R259. -/
  | incA
  /-- `DEC A`: R261. -/
  | decA
  /-- `CCF`: R266. -/
  | ccf
  /-- `LD B,B`: R200. -/
  | ldBB
  /-- `LD B,C`: R200. -/
  | ldBC
  /-- `LD B,D`: R200. -/
  | ldBD
  /-- `LD B,E`: R200. -/
  | ldBE
  /-- `LD B,H`: R200. -/
  | ldBH
  /-- `LD B,L`: R200. -/
  | ldBL
  /-- `LD B,(HL)`: R201. -/
  | ldBIndHl
  /-- `LD B,A`: R200. -/
  | ldBA
  /-- `LD C,B`: R200. -/
  | ldCB
  /-- `LD C,C`: R200. -/
  | ldCC
  /-- `LD C,D`: R200. -/
  | ldCD
  /-- `LD C,E`: R200. -/
  | ldCE
  /-- `LD C,H`: R200. -/
  | ldCH
  /-- `LD C,L`: R200. -/
  | ldCL
  /-- `LD C,(HL)`: R201. -/
  | ldCIndHl
  /-- `LD C,A`: R200. -/
  | ldCA
  /-- `LD D,B`: R200. -/
  | ldDB
  /-- `LD D,C`: R200. -/
  | ldDC
  /-- `LD D,D`: R200. -/
  | ldDD
  /-- `LD D,E`: R200. -/
  | ldDE
  /-- `LD D,H`: R200. -/
  | ldDH
  /-- `LD D,L`: R200. -/
  | ldDL
  /-- `LD D,(HL)`: R201. -/
  | ldDIndHl
  /-- `LD D,A`: R200. -/
  | ldDA
  /-- `LD E,B`: R200. -/
  | ldEB
  /-- `LD E,C`: R200. -/
  | ldEC
  /-- `LD E,D`: R200. -/
  | ldED
  /-- `LD E,E`: R200. -/
  | ldEE
  /-- `LD E,H`: R200. -/
  | ldEH
  /-- `LD E,L`: R200. -/
  | ldEL
  /-- `LD E,(HL)`: R201. -/
  | ldEIndHl
  /-- `LD E,A`: R200. -/
  | ldEA
  /-- `LD H,B`: R200. -/
  | ldHB
  /-- `LD H,C`: R200. -/
  | ldHC
  /-- `LD H,D`: R200. -/
  | ldHD
  /-- `LD H,E`: R200. -/
  | ldHE
  /-- `LD H,H`: R200. -/
  | ldHH
  /-- `LD H,L`: R200. -/
  | ldHL
  /-- `LD H,(HL)`: R201. -/
  | ldHIndHl
  /-- `LD H,A`: R200. -/
  | ldHA
  /-- `LD L,B`: R200. -/
  | ldLB
  /-- `LD L,C`: R200. -/
  | ldLC
  /-- `LD L,D`: R200. -/
  | ldLD
  /-- `LD L,E`: R200. -/
  | ldLE
  /-- `LD L,H`: R200. -/
  | ldLH
  /-- `LD L,L`: R200. -/
  | ldLL
  /-- `LD L,(HL)`: R201. -/
  | ldLIndHl
  /-- `LD L,A`: R200. -/
  | ldLA
  /-- `LD (HL),B`: R202. -/
  | ldIndHlB
  /-- `LD (HL),C`: R202. -/
  | ldIndHlC
  /-- `LD (HL),D`: R202. -/
  | ldIndHlD
  /-- `LD (HL),E`: R202. -/
  | ldIndHlE
  /-- `LD (HL),H`: R202. -/
  | ldIndHlH
  /-- `LD (HL),L`: R202. -/
  | ldIndHlL
  /-- `HALT`: R381. -/
  | halt
  /-- `LD (HL),A`: R202. -/
  | ldIndHlA
  /-- `LD A,B`: R200. -/
  | ldAB
  /-- `LD A,C`: R200. -/
  | ldAC
  /-- `LD A,D`: R200. -/
  | ldAD
  /-- `LD A,E`: R200. -/
  | ldAE
  /-- `LD A,H`: R200. -/
  | ldAH
  /-- `LD A,L`: R200. -/
  | ldAL
  /-- `LD A,(HL)`: R201. -/
  | ldAIndHl
  /-- `LD A,A`: R200. -/
  | ldAA
  /-- `ADD A,B`: R251. -/
  | addAB
  /-- `ADD A,C`: R251. -/
  | addAC
  /-- `ADD A,D`: R251. -/
  | addAD
  /-- `ADD A,E`: R251. -/
  | addAE
  /-- `ADD A,H`: R251. -/
  | addAH
  /-- `ADD A,L`: R251. -/
  | addAL
  /-- `ADD A,(HL)`: R251. -/
  | addAIndHl
  /-- `ADD A,A`: R251. -/
  | addAA
  /-- `ADC A,B`: R252. -/
  | adcAB
  /-- `ADC A,C`: R252. -/
  | adcAC
  /-- `ADC A,D`: R252. -/
  | adcAD
  /-- `ADC A,E`: R252. -/
  | adcAE
  /-- `ADC A,H`: R252. -/
  | adcAH
  /-- `ADC A,L`: R252. -/
  | adcAL
  /-- `ADC A,(HL)`: R252. -/
  | adcAIndHl
  /-- `ADC A,A`: R252. -/
  | adcAA
  /-- `SUB B`: R253. -/
  | subB
  /-- `SUB C`: R253. -/
  | subC
  /-- `SUB D`: R253. -/
  | subD
  /-- `SUB E`: R253. -/
  | subE
  /-- `SUB H`: R253. -/
  | subH
  /-- `SUB L`: R253. -/
  | subL
  /-- `SUB (HL)`: R253. -/
  | subIndHl
  /-- `SUB A`: R253. -/
  | subA
  /-- `SBC A,B`: R254. -/
  | sbcAB
  /-- `SBC A,C`: R254. -/
  | sbcAC
  /-- `SBC A,D`: R254. -/
  | sbcAD
  /-- `SBC A,E`: R254. -/
  | sbcAE
  /-- `SBC A,H`: R254. -/
  | sbcAH
  /-- `SBC A,L`: R254. -/
  | sbcAL
  /-- `SBC A,(HL)`: R254. -/
  | sbcAIndHl
  /-- `SBC A,A`: R254. -/
  | sbcAA
  /-- `AND B`: R255. -/
  | andB
  /-- `AND C`: R255. -/
  | andC
  /-- `AND D`: R255. -/
  | andD
  /-- `AND E`: R255. -/
  | andE
  /-- `AND H`: R255. -/
  | andH
  /-- `AND L`: R255. -/
  | andL
  /-- `AND (HL)`: R255. -/
  | andIndHl
  /-- `AND A`: R255. -/
  | andA
  /-- `XOR B`: R256. -/
  | xorB
  /-- `XOR C`: R256. -/
  | xorC
  /-- `XOR D`: R256. -/
  | xorD
  /-- `XOR E`: R256. -/
  | xorE
  /-- `XOR H`: R256. -/
  | xorH
  /-- `XOR L`: R256. -/
  | xorL
  /-- `XOR (HL)`: R256. -/
  | xorIndHl
  /-- `XOR A`: R256. -/
  | xorA
  /-- `OR B`: R257. -/
  | orB
  /-- `OR C`: R257. -/
  | orC
  /-- `OR D`: R257. -/
  | orD
  /-- `OR E`: R257. -/
  | orE
  /-- `OR H`: R257. -/
  | orH
  /-- `OR L`: R257. -/
  | orL
  /-- `OR (HL)`: R257. -/
  | orIndHl
  /-- `OR A`: R257. -/
  | orA
  /-- `CP B`: R258. -/
  | cpB
  /-- `CP C`: R258. -/
  | cpC
  /-- `CP D`: R258. -/
  | cpD
  /-- `CP E`: R258. -/
  | cpE
  /-- `CP H`: R258. -/
  | cpH
  /-- `CP L`: R258. -/
  | cpL
  /-- `CP (HL)`: R258. -/
  | cpIndHl
  /-- `CP A`: R258. -/
  | cpA
  /-- `RET NZ`: R359. -/
  | retNz
  /-- `POP BC`: R226. -/
  | popBc
  /-- `PUSH BC`: R224. -/
  | pushBc
  /-- `RST 0x00`: R361. -/
  | rst00
  /-- `RET Z`: R359. -/
  | retZ
  /-- `RET`: R358. -/
  | ret
  /-- `PREFIX CB`: R385. -/
  | prefixCb
  /-- `RST 0x08`: R361. -/
  | rst08
  /-- `RET NC`: R359. -/
  | retNc
  /-- `POP DE`: R226. -/
  | popDe
  /-- `ILLEGAL_D3`: R386. -/
  | illegalD3
  /-- `PUSH DE`: R224. -/
  | pushDe
  /-- `RST 0x10`: R361. -/
  | rst10
  /-- `RET C`: R359. -/
  | retC
  /-- `RETI`: R360. -/
  | reti
  /-- `ILLEGAL_DB`: R386. -/
  | illegalDB
  /-- `ILLEGAL_DD`: R386. -/
  | illegalDD
  /-- `RST 0x18`: R361. -/
  | rst18
  /-- `POP HL`: R226. -/
  | popHl
  /-- `LD (C),A`: R215. -/
  | ldIndCA
  /-- `ILLEGAL_E3`: R386. -/
  | illegalE3
  /-- `ILLEGAL_E4`: R386. -/
  | illegalE4
  /-- `PUSH HL`: R224. -/
  | pushHl
  /-- `RST 0x20`: R361. -/
  | rst20
  /-- `JP HL`: R353. -/
  | jpHl
  /-- `ILLEGAL_EB`: R386. -/
  | illegalEB
  /-- `ILLEGAL_EC`: R386. -/
  | illegalEC
  /-- `ILLEGAL_ED`: R386. -/
  | illegalED
  /-- `RST 0x28`: R361. -/
  | rst28
  /-- `POP AF`: R227. -/
  | popAf
  /-- `LD A,(C)`: R216. -/
  | ldAIndC
  /-- `DI`: R383. -/
  | di
  /-- `ILLEGAL_F4`: R386. -/
  | illegalF4
  /-- `PUSH AF`: R225. -/
  | pushAf
  /-- `RST 0x30`: R361. -/
  | rst30
  /-- `LD SP,HL`: R221. -/
  | ldSpHl
  /-- `EI`: R384. -/
  | ei
  /-- `ILLEGAL_FC`: R386. -/
  | illegalFC
  /-- `ILLEGAL_FD`: R386. -/
  | illegalFD
  /-- `RST 0x38`: R361. -/
  | rst38
  /-- `RLC B`: R315. -/
  | rlcB
  /-- `RLC C`: R315. -/
  | rlcC
  /-- `RLC D`: R315. -/
  | rlcD
  /-- `RLC E`: R315. -/
  | rlcE
  /-- `RLC H`: R315. -/
  | rlcH
  /-- `RLC L`: R315. -/
  | rlcL
  /-- `RLC (HL)`: R315. -/
  | rlcIndHl
  /-- `RLC A`: R315. -/
  | rlcA
  /-- `RRC B`: R316. -/
  | rrcB
  /-- `RRC C`: R316. -/
  | rrcC
  /-- `RRC D`: R316. -/
  | rrcD
  /-- `RRC E`: R316. -/
  | rrcE
  /-- `RRC H`: R316. -/
  | rrcH
  /-- `RRC L`: R316. -/
  | rrcL
  /-- `RRC (HL)`: R316. -/
  | rrcIndHl
  /-- `RRC A`: R316. -/
  | rrcA
  /-- `RL B`: R317. -/
  | rlB
  /-- `RL C`: R317. -/
  | rlC
  /-- `RL D`: R317. -/
  | rlD
  /-- `RL E`: R317. -/
  | rlE
  /-- `RL H`: R317. -/
  | rlH
  /-- `RL L`: R317. -/
  | rlL
  /-- `RL (HL)`: R317. -/
  | rlIndHl
  /-- `RL A`: R317. -/
  | rlA
  /-- `RR B`: R318. -/
  | rrB
  /-- `RR C`: R318. -/
  | rrC
  /-- `RR D`: R318. -/
  | rrD
  /-- `RR E`: R318. -/
  | rrE
  /-- `RR H`: R318. -/
  | rrH
  /-- `RR L`: R318. -/
  | rrL
  /-- `RR (HL)`: R318. -/
  | rrIndHl
  /-- `RR A`: R318. -/
  | rrA
  /-- `SLA B`: R319. -/
  | slaB
  /-- `SLA C`: R319. -/
  | slaC
  /-- `SLA D`: R319. -/
  | slaD
  /-- `SLA E`: R319. -/
  | slaE
  /-- `SLA H`: R319. -/
  | slaH
  /-- `SLA L`: R319. -/
  | slaL
  /-- `SLA (HL)`: R319. -/
  | slaIndHl
  /-- `SLA A`: R319. -/
  | slaA
  /-- `SRA B`: R320. -/
  | sraB
  /-- `SRA C`: R320. -/
  | sraC
  /-- `SRA D`: R320. -/
  | sraD
  /-- `SRA E`: R320. -/
  | sraE
  /-- `SRA H`: R320. -/
  | sraH
  /-- `SRA L`: R320. -/
  | sraL
  /-- `SRA (HL)`: R320. -/
  | sraIndHl
  /-- `SRA A`: R320. -/
  | sraA
  /-- `SWAP B`: R321. -/
  | swapB
  /-- `SWAP C`: R321. -/
  | swapC
  /-- `SWAP D`: R321. -/
  | swapD
  /-- `SWAP E`: R321. -/
  | swapE
  /-- `SWAP H`: R321. -/
  | swapH
  /-- `SWAP L`: R321. -/
  | swapL
  /-- `SWAP (HL)`: R321. -/
  | swapIndHl
  /-- `SWAP A`: R321. -/
  | swapA
  /-- `SRL B`: R322. -/
  | srlB
  /-- `SRL C`: R322. -/
  | srlC
  /-- `SRL D`: R322. -/
  | srlD
  /-- `SRL E`: R322. -/
  | srlE
  /-- `SRL H`: R322. -/
  | srlH
  /-- `SRL L`: R322. -/
  | srlL
  /-- `SRL (HL)`: R322. -/
  | srlIndHl
  /-- `SRL A`: R322. -/
  | srlA
  /-- `BIT 0,B`: R323. -/
  | bit0B
  /-- `BIT 0,C`: R323. -/
  | bit0C
  /-- `BIT 0,D`: R323. -/
  | bit0D
  /-- `BIT 0,E`: R323. -/
  | bit0E
  /-- `BIT 0,H`: R323. -/
  | bit0H
  /-- `BIT 0,L`: R323. -/
  | bit0L
  /-- `BIT 0,(HL)`: R323. -/
  | bit0IndHl
  /-- `BIT 0,A`: R323. -/
  | bit0A
  /-- `BIT 1,B`: R323. -/
  | bit1B
  /-- `BIT 1,C`: R323. -/
  | bit1C
  /-- `BIT 1,D`: R323. -/
  | bit1D
  /-- `BIT 1,E`: R323. -/
  | bit1E
  /-- `BIT 1,H`: R323. -/
  | bit1H
  /-- `BIT 1,L`: R323. -/
  | bit1L
  /-- `BIT 1,(HL)`: R323. -/
  | bit1IndHl
  /-- `BIT 1,A`: R323. -/
  | bit1A
  /-- `BIT 2,B`: R323. -/
  | bit2B
  /-- `BIT 2,C`: R323. -/
  | bit2C
  /-- `BIT 2,D`: R323. -/
  | bit2D
  /-- `BIT 2,E`: R323. -/
  | bit2E
  /-- `BIT 2,H`: R323. -/
  | bit2H
  /-- `BIT 2,L`: R323. -/
  | bit2L
  /-- `BIT 2,(HL)`: R323. -/
  | bit2IndHl
  /-- `BIT 2,A`: R323. -/
  | bit2A
  /-- `BIT 3,B`: R323. -/
  | bit3B
  /-- `BIT 3,C`: R323. -/
  | bit3C
  /-- `BIT 3,D`: R323. -/
  | bit3D
  /-- `BIT 3,E`: R323. -/
  | bit3E
  /-- `BIT 3,H`: R323. -/
  | bit3H
  /-- `BIT 3,L`: R323. -/
  | bit3L
  /-- `BIT 3,(HL)`: R323. -/
  | bit3IndHl
  /-- `BIT 3,A`: R323. -/
  | bit3A
  /-- `BIT 4,B`: R323. -/
  | bit4B
  /-- `BIT 4,C`: R323. -/
  | bit4C
  /-- `BIT 4,D`: R323. -/
  | bit4D
  /-- `BIT 4,E`: R323. -/
  | bit4E
  /-- `BIT 4,H`: R323. -/
  | bit4H
  /-- `BIT 4,L`: R323. -/
  | bit4L
  /-- `BIT 4,(HL)`: R323. -/
  | bit4IndHl
  /-- `BIT 4,A`: R323. -/
  | bit4A
  /-- `BIT 5,B`: R323. -/
  | bit5B
  /-- `BIT 5,C`: R323. -/
  | bit5C
  /-- `BIT 5,D`: R323. -/
  | bit5D
  /-- `BIT 5,E`: R323. -/
  | bit5E
  /-- `BIT 5,H`: R323. -/
  | bit5H
  /-- `BIT 5,L`: R323. -/
  | bit5L
  /-- `BIT 5,(HL)`: R323. -/
  | bit5IndHl
  /-- `BIT 5,A`: R323. -/
  | bit5A
  /-- `BIT 6,B`: R323. -/
  | bit6B
  /-- `BIT 6,C`: R323. -/
  | bit6C
  /-- `BIT 6,D`: R323. -/
  | bit6D
  /-- `BIT 6,E`: R323. -/
  | bit6E
  /-- `BIT 6,H`: R323. -/
  | bit6H
  /-- `BIT 6,L`: R323. -/
  | bit6L
  /-- `BIT 6,(HL)`: R323. -/
  | bit6IndHl
  /-- `BIT 6,A`: R323. -/
  | bit6A
  /-- `BIT 7,B`: R323. -/
  | bit7B
  /-- `BIT 7,C`: R323. -/
  | bit7C
  /-- `BIT 7,D`: R323. -/
  | bit7D
  /-- `BIT 7,E`: R323. -/
  | bit7E
  /-- `BIT 7,H`: R323. -/
  | bit7H
  /-- `BIT 7,L`: R323. -/
  | bit7L
  /-- `BIT 7,(HL)`: R323. -/
  | bit7IndHl
  /-- `BIT 7,A`: R323. -/
  | bit7A
  /-- `RES 0,B`: R324. -/
  | res0B
  /-- `RES 0,C`: R324. -/
  | res0C
  /-- `RES 0,D`: R324. -/
  | res0D
  /-- `RES 0,E`: R324. -/
  | res0E
  /-- `RES 0,H`: R324. -/
  | res0H
  /-- `RES 0,L`: R324. -/
  | res0L
  /-- `RES 0,(HL)`: R324. -/
  | res0IndHl
  /-- `RES 0,A`: R324. -/
  | res0A
  /-- `RES 1,B`: R324. -/
  | res1B
  /-- `RES 1,C`: R324. -/
  | res1C
  /-- `RES 1,D`: R324. -/
  | res1D
  /-- `RES 1,E`: R324. -/
  | res1E
  /-- `RES 1,H`: R324. -/
  | res1H
  /-- `RES 1,L`: R324. -/
  | res1L
  /-- `RES 1,(HL)`: R324. -/
  | res1IndHl
  /-- `RES 1,A`: R324. -/
  | res1A
  /-- `RES 2,B`: R324. -/
  | res2B
  /-- `RES 2,C`: R324. -/
  | res2C
  /-- `RES 2,D`: R324. -/
  | res2D
  /-- `RES 2,E`: R324. -/
  | res2E
  /-- `RES 2,H`: R324. -/
  | res2H
  /-- `RES 2,L`: R324. -/
  | res2L
  /-- `RES 2,(HL)`: R324. -/
  | res2IndHl
  /-- `RES 2,A`: R324. -/
  | res2A
  /-- `RES 3,B`: R324. -/
  | res3B
  /-- `RES 3,C`: R324. -/
  | res3C
  /-- `RES 3,D`: R324. -/
  | res3D
  /-- `RES 3,E`: R324. -/
  | res3E
  /-- `RES 3,H`: R324. -/
  | res3H
  /-- `RES 3,L`: R324. -/
  | res3L
  /-- `RES 3,(HL)`: R324. -/
  | res3IndHl
  /-- `RES 3,A`: R324. -/
  | res3A
  /-- `RES 4,B`: R324. -/
  | res4B
  /-- `RES 4,C`: R324. -/
  | res4C
  /-- `RES 4,D`: R324. -/
  | res4D
  /-- `RES 4,E`: R324. -/
  | res4E
  /-- `RES 4,H`: R324. -/
  | res4H
  /-- `RES 4,L`: R324. -/
  | res4L
  /-- `RES 4,(HL)`: R324. -/
  | res4IndHl
  /-- `RES 4,A`: R324. -/
  | res4A
  /-- `RES 5,B`: R324. -/
  | res5B
  /-- `RES 5,C`: R324. -/
  | res5C
  /-- `RES 5,D`: R324. -/
  | res5D
  /-- `RES 5,E`: R324. -/
  | res5E
  /-- `RES 5,H`: R324. -/
  | res5H
  /-- `RES 5,L`: R324. -/
  | res5L
  /-- `RES 5,(HL)`: R324. -/
  | res5IndHl
  /-- `RES 5,A`: R324. -/
  | res5A
  /-- `RES 6,B`: R324. -/
  | res6B
  /-- `RES 6,C`: R324. -/
  | res6C
  /-- `RES 6,D`: R324. -/
  | res6D
  /-- `RES 6,E`: R324. -/
  | res6E
  /-- `RES 6,H`: R324. -/
  | res6H
  /-- `RES 6,L`: R324. -/
  | res6L
  /-- `RES 6,(HL)`: R324. -/
  | res6IndHl
  /-- `RES 6,A`: R324. -/
  | res6A
  /-- `RES 7,B`: R324. -/
  | res7B
  /-- `RES 7,C`: R324. -/
  | res7C
  /-- `RES 7,D`: R324. -/
  | res7D
  /-- `RES 7,E`: R324. -/
  | res7E
  /-- `RES 7,H`: R324. -/
  | res7H
  /-- `RES 7,L`: R324. -/
  | res7L
  /-- `RES 7,(HL)`: R324. -/
  | res7IndHl
  /-- `RES 7,A`: R324. -/
  | res7A
  /-- `SET 0,B`: R325. -/
  | set0B
  /-- `SET 0,C`: R325. -/
  | set0C
  /-- `SET 0,D`: R325. -/
  | set0D
  /-- `SET 0,E`: R325. -/
  | set0E
  /-- `SET 0,H`: R325. -/
  | set0H
  /-- `SET 0,L`: R325. -/
  | set0L
  /-- `SET 0,(HL)`: R325. -/
  | set0IndHl
  /-- `SET 0,A`: R325. -/
  | set0A
  /-- `SET 1,B`: R325. -/
  | set1B
  /-- `SET 1,C`: R325. -/
  | set1C
  /-- `SET 1,D`: R325. -/
  | set1D
  /-- `SET 1,E`: R325. -/
  | set1E
  /-- `SET 1,H`: R325. -/
  | set1H
  /-- `SET 1,L`: R325. -/
  | set1L
  /-- `SET 1,(HL)`: R325. -/
  | set1IndHl
  /-- `SET 1,A`: R325. -/
  | set1A
  /-- `SET 2,B`: R325. -/
  | set2B
  /-- `SET 2,C`: R325. -/
  | set2C
  /-- `SET 2,D`: R325. -/
  | set2D
  /-- `SET 2,E`: R325. -/
  | set2E
  /-- `SET 2,H`: R325. -/
  | set2H
  /-- `SET 2,L`: R325. -/
  | set2L
  /-- `SET 2,(HL)`: R325. -/
  | set2IndHl
  /-- `SET 2,A`: R325. -/
  | set2A
  /-- `SET 3,B`: R325. -/
  | set3B
  /-- `SET 3,C`: R325. -/
  | set3C
  /-- `SET 3,D`: R325. -/
  | set3D
  /-- `SET 3,E`: R325. -/
  | set3E
  /-- `SET 3,H`: R325. -/
  | set3H
  /-- `SET 3,L`: R325. -/
  | set3L
  /-- `SET 3,(HL)`: R325. -/
  | set3IndHl
  /-- `SET 3,A`: R325. -/
  | set3A
  /-- `SET 4,B`: R325. -/
  | set4B
  /-- `SET 4,C`: R325. -/
  | set4C
  /-- `SET 4,D`: R325. -/
  | set4D
  /-- `SET 4,E`: R325. -/
  | set4E
  /-- `SET 4,H`: R325. -/
  | set4H
  /-- `SET 4,L`: R325. -/
  | set4L
  /-- `SET 4,(HL)`: R325. -/
  | set4IndHl
  /-- `SET 4,A`: R325. -/
  | set4A
  /-- `SET 5,B`: R325. -/
  | set5B
  /-- `SET 5,C`: R325. -/
  | set5C
  /-- `SET 5,D`: R325. -/
  | set5D
  /-- `SET 5,E`: R325. -/
  | set5E
  /-- `SET 5,H`: R325. -/
  | set5H
  /-- `SET 5,L`: R325. -/
  | set5L
  /-- `SET 5,(HL)`: R325. -/
  | set5IndHl
  /-- `SET 5,A`: R325. -/
  | set5A
  /-- `SET 6,B`: R325. -/
  | set6B
  /-- `SET 6,C`: R325. -/
  | set6C
  /-- `SET 6,D`: R325. -/
  | set6D
  /-- `SET 6,E`: R325. -/
  | set6E
  /-- `SET 6,H`: R325. -/
  | set6H
  /-- `SET 6,L`: R325. -/
  | set6L
  /-- `SET 6,(HL)`: R325. -/
  | set6IndHl
  /-- `SET 6,A`: R325. -/
  | set6A
  /-- `SET 7,B`: R325. -/
  | set7B
  /-- `SET 7,C`: R325. -/
  | set7C
  /-- `SET 7,D`: R325. -/
  | set7D
  /-- `SET 7,E`: R325. -/
  | set7E
  /-- `SET 7,H`: R325. -/
  | set7H
  /-- `SET 7,L`: R325. -/
  | set7L
  /-- `SET 7,(HL)`: R325. -/
  | set7IndHl
  /-- `SET 7,A`: R325. -/
  | set7A
  deriving DecidableEq, Repr

end Sys2Proof
end

