-- ==== Sys2Proof/WellFormed.lean ====
section
/-! DEFINITION. Which terms of `Instr` are whole instructions. Operand fields are exact by their types, so one check remains (30_encoding.md R191). -/

namespace Sys2Proof

/-- "The prefix 0xCB is not an instruction by itself" (R191): the row `PREFIX CB` is the first byte of a
two-byte instruction, and every other constructor is a whole instruction. -/
def Instr.wellFormed (i : Instr) : Bool := !decide (i = .prefixCb)

end Sys2Proof
end

