-- ==== Sys2Proof/Decode.lean ====
section
/-! DEFINITION. The decoder, read off the encoding fields of 30_encoding.md R182-R192, and the encoder, read off the opcode maps of R189. -/

namespace Sys2Proof

open Sys2Proof.Machine (wordOf hiByte loByte)

/-- `LD r,r'` (R200): destination, source. -/
def Instr.ofLd : Reg8 → Reg8 → Instr
  | .b, .b => .ldBB
  | .b, .c => .ldBC
  | .b, .d => .ldBD
  | .b, .e => .ldBE
  | .b, .h => .ldBH
  | .b, .l => .ldBL
  | .b, .a => .ldBA
  | .c, .b => .ldCB
  | .c, .c => .ldCC
  | .c, .d => .ldCD
  | .c, .e => .ldCE
  | .c, .h => .ldCH
  | .c, .l => .ldCL
  | .c, .a => .ldCA
  | .d, .b => .ldDB
  | .d, .c => .ldDC
  | .d, .d => .ldDD
  | .d, .e => .ldDE
  | .d, .h => .ldDH
  | .d, .l => .ldDL
  | .d, .a => .ldDA
  | .e, .b => .ldEB
  | .e, .c => .ldEC
  | .e, .d => .ldED
  | .e, .e => .ldEE
  | .e, .h => .ldEH
  | .e, .l => .ldEL
  | .e, .a => .ldEA
  | .h, .b => .ldHB
  | .h, .c => .ldHC
  | .h, .d => .ldHD
  | .h, .e => .ldHE
  | .h, .h => .ldHH
  | .h, .l => .ldHL
  | .h, .a => .ldHA
  | .l, .b => .ldLB
  | .l, .c => .ldLC
  | .l, .d => .ldLD
  | .l, .e => .ldLE
  | .l, .h => .ldLH
  | .l, .l => .ldLL
  | .l, .a => .ldLA
  | .a, .b => .ldAB
  | .a, .c => .ldAC
  | .a, .d => .ldAD
  | .a, .e => .ldAE
  | .a, .h => .ldAH
  | .a, .l => .ldAL
  | .a, .a => .ldAA

/-- `LD r,(HL)` (R201). -/
def Instr.ofLdInd : Reg8 → Instr
  | .b => .ldBIndHl
  | .c => .ldCIndHl
  | .d => .ldDIndHl
  | .e => .ldEIndHl
  | .h => .ldHIndHl
  | .l => .ldLIndHl
  | .a => .ldAIndHl

/-- `LD (HL),r` (R202). -/
def Instr.ofStInd : Reg8 → Instr
  | .b => .ldIndHlB
  | .c => .ldIndHlC
  | .d => .ldIndHlD
  | .e => .ldIndHlE
  | .h => .ldIndHlH
  | .l => .ldIndHlL
  | .a => .ldIndHlA

/-- `LD r,d8` (R203). -/
def Instr.ofLdImm (r : Reg8) (d8 : Byte) : Instr :=
  match r with
  | .b => .ldBD8 d8
  | .c => .ldCD8 d8
  | .d => .ldDD8 d8
  | .e => .ldED8 d8
  | .h => .ldHD8 d8
  | .l => .ldLD8 d8
  | .a => .ldAD8 d8

/-- `LD A,(BC)`, `LD A,(DE)`, `LD A,(HL+)`, `LD A,(HL-)` (R205, R206, R209, R210). -/
def Instr.ofLdPtr : Ptr → Instr
  | .bc => .ldAIndBc
  | .de => .ldAIndDe
  | .hlInc => .ldAIndHlInc
  | .hlDec => .ldAIndHlDec

/-- `LD (BC),A`, `LD (DE),A`, `LD (HL+),A`, `LD (HL-),A` (R207, R208, R211, R212). -/
def Instr.ofStPtr : Ptr → Instr
  | .bc => .ldIndBcA
  | .de => .ldIndDeA
  | .hlInc => .ldIndHlIncA
  | .hlDec => .ldIndHlDecA

/-- `LD rr,d16` (R219). -/
def Instr.ofLdPair (p : Rp) (d16 : Word) : Instr :=
  match p with
  | .bc => .ldBcD16 d16
  | .de => .ldDeD16 d16
  | .hl => .ldHlD16 d16
  | .sp => .ldSpD16 d16

/-- `INC rr` (R290). -/
def Instr.ofIncPair : Rp → Instr
  | .bc => .incBc
  | .de => .incDe
  | .hl => .incHl
  | .sp => .incSp

/-- `DEC rr` (R291). -/
def Instr.ofDecPair : Rp → Instr
  | .bc => .decBc
  | .de => .decDe
  | .hl => .decHl
  | .sp => .decSp

/-- `ADD HL,rr` (R292). -/
def Instr.ofAddHl : Rp → Instr
  | .bc => .addHlBc
  | .de => .addHlDe
  | .hl => .addHlHl
  | .sp => .addHlSp

/-- `PUSH rr` (R224, R225). -/
def Instr.ofPush : Rp2 → Instr
  | .bc => .pushBc
  | .de => .pushDe
  | .hl => .pushHl
  | .af => .pushAf

/-- `POP rr` (R226, R227). -/
def Instr.ofPop : Rp2 → Instr
  | .bc => .popBc
  | .de => .popDe
  | .hl => .popHl
  | .af => .popAf

/-- `INC r` and `INC (HL)` (R259, R260). -/
def Instr.ofInc : Loc → Instr
  | .reg .b => .incB
  | .reg .c => .incC
  | .reg .d => .incD
  | .reg .e => .incE
  | .reg .h => .incH
  | .reg .l => .incL
  | .reg .a => .incA
  | .indHl => .incIndHl

/-- `DEC r` and `DEC (HL)` (R261, R262). -/
def Instr.ofDec : Loc → Instr
  | .reg .b => .decB
  | .reg .c => .decC
  | .reg .d => .decD
  | .reg .e => .decE
  | .reg .h => .decH
  | .reg .l => .decL
  | .reg .a => .decA
  | .indHl => .decIndHl

/-- The 8-bit ALU operations in their three operand forms (R250). -/
def Instr.ofAlu (op : AluOp) (s : Src) : Instr :=
  match op, s with
  | .add, .reg .b => .addAB
  | .add, .reg .c => .addAC
  | .add, .reg .d => .addAD
  | .add, .reg .e => .addAE
  | .add, .reg .h => .addAH
  | .add, .reg .l => .addAL
  | .add, .reg .a => .addAA
  | .add, .indHl => .addAIndHl
  | .add, .imm d8 => .addAD8 d8
  | .adc, .reg .b => .adcAB
  | .adc, .reg .c => .adcAC
  | .adc, .reg .d => .adcAD
  | .adc, .reg .e => .adcAE
  | .adc, .reg .h => .adcAH
  | .adc, .reg .l => .adcAL
  | .adc, .reg .a => .adcAA
  | .adc, .indHl => .adcAIndHl
  | .adc, .imm d8 => .adcAD8 d8
  | .sub, .reg .b => .subB
  | .sub, .reg .c => .subC
  | .sub, .reg .d => .subD
  | .sub, .reg .e => .subE
  | .sub, .reg .h => .subH
  | .sub, .reg .l => .subL
  | .sub, .reg .a => .subA
  | .sub, .indHl => .subIndHl
  | .sub, .imm d8 => .subD8 d8
  | .sbc, .reg .b => .sbcAB
  | .sbc, .reg .c => .sbcAC
  | .sbc, .reg .d => .sbcAD
  | .sbc, .reg .e => .sbcAE
  | .sbc, .reg .h => .sbcAH
  | .sbc, .reg .l => .sbcAL
  | .sbc, .reg .a => .sbcAA
  | .sbc, .indHl => .sbcAIndHl
  | .sbc, .imm d8 => .sbcAD8 d8
  | .and, .reg .b => .andB
  | .and, .reg .c => .andC
  | .and, .reg .d => .andD
  | .and, .reg .e => .andE
  | .and, .reg .h => .andH
  | .and, .reg .l => .andL
  | .and, .reg .a => .andA
  | .and, .indHl => .andIndHl
  | .and, .imm d8 => .andD8 d8
  | .xor, .reg .b => .xorB
  | .xor, .reg .c => .xorC
  | .xor, .reg .d => .xorD
  | .xor, .reg .e => .xorE
  | .xor, .reg .h => .xorH
  | .xor, .reg .l => .xorL
  | .xor, .reg .a => .xorA
  | .xor, .indHl => .xorIndHl
  | .xor, .imm d8 => .xorD8 d8
  | .or, .reg .b => .orB
  | .or, .reg .c => .orC
  | .or, .reg .d => .orD
  | .or, .reg .e => .orE
  | .or, .reg .h => .orH
  | .or, .reg .l => .orL
  | .or, .reg .a => .orA
  | .or, .indHl => .orIndHl
  | .or, .imm d8 => .orD8 d8
  | .cp, .reg .b => .cpB
  | .cp, .reg .c => .cpC
  | .cp, .reg .d => .cpD
  | .cp, .reg .e => .cpE
  | .cp, .reg .h => .cpH
  | .cp, .reg .l => .cpL
  | .cp, .reg .a => .cpA
  | .cp, .indHl => .cpIndHl
  | .cp, .imm d8 => .cpD8 d8

/-- `JR cc,e8` (R355). -/
def Instr.ofJr (cc : Cond) (e8 : Byte) : Instr :=
  match cc with
  | .nz => .jrNzE8 e8
  | .z => .jrZE8 e8
  | .nc => .jrNcE8 e8
  | .c => .jrCE8 e8

/-- `JP cc,a16` (R352). -/
def Instr.ofJp (cc : Cond) (a16 : Word) : Instr :=
  match cc with
  | .nz => .jpNzA16 a16
  | .z => .jpZA16 a16
  | .nc => .jpNcA16 a16
  | .c => .jpCA16 a16

/-- `CALL cc,a16` (R357). -/
def Instr.ofCall (cc : Cond) (a16 : Word) : Instr :=
  match cc with
  | .nz => .callNzA16 a16
  | .z => .callZA16 a16
  | .nc => .callNcA16 a16
  | .c => .callCA16 a16

/-- `RET cc` (R359). -/
def Instr.ofRet : Cond → Instr
  | .nz => .retNz
  | .z => .retZ
  | .nc => .retNc
  | .c => .retC

/-- `RST n`, `n = y * 8` (R361). -/
def Instr.ofRst : Oct → Instr
  | .n0 => .rst00
  | .n1 => .rst08
  | .n2 => .rst10
  | .n3 => .rst18
  | .n4 => .rst20
  | .n5 => .rst28
  | .n6 => .rst30
  | .n7 => .rst38

/-- The rotates and shifts of the extended table (R315-R322). -/
def Instr.ofShift : ShiftOp → Loc → Instr
  | .rlc, .reg .b => .rlcB
  | .rlc, .reg .c => .rlcC
  | .rlc, .reg .d => .rlcD
  | .rlc, .reg .e => .rlcE
  | .rlc, .reg .h => .rlcH
  | .rlc, .reg .l => .rlcL
  | .rlc, .reg .a => .rlcA
  | .rrc, .reg .b => .rrcB
  | .rrc, .reg .c => .rrcC
  | .rrc, .reg .d => .rrcD
  | .rrc, .reg .e => .rrcE
  | .rrc, .reg .h => .rrcH
  | .rrc, .reg .l => .rrcL
  | .rrc, .reg .a => .rrcA
  | .rl, .reg .b => .rlB
  | .rl, .reg .c => .rlC
  | .rl, .reg .d => .rlD
  | .rl, .reg .e => .rlE
  | .rl, .reg .h => .rlH
  | .rl, .reg .l => .rlL
  | .rl, .reg .a => .rlA
  | .rr, .reg .b => .rrB
  | .rr, .reg .c => .rrC
  | .rr, .reg .d => .rrD
  | .rr, .reg .e => .rrE
  | .rr, .reg .h => .rrH
  | .rr, .reg .l => .rrL
  | .rr, .reg .a => .rrA
  | .sla, .reg .b => .slaB
  | .sla, .reg .c => .slaC
  | .sla, .reg .d => .slaD
  | .sla, .reg .e => .slaE
  | .sla, .reg .h => .slaH
  | .sla, .reg .l => .slaL
  | .sla, .reg .a => .slaA
  | .sra, .reg .b => .sraB
  | .sra, .reg .c => .sraC
  | .sra, .reg .d => .sraD
  | .sra, .reg .e => .sraE
  | .sra, .reg .h => .sraH
  | .sra, .reg .l => .sraL
  | .sra, .reg .a => .sraA
  | .swap, .reg .b => .swapB
  | .swap, .reg .c => .swapC
  | .swap, .reg .d => .swapD
  | .swap, .reg .e => .swapE
  | .swap, .reg .h => .swapH
  | .swap, .reg .l => .swapL
  | .swap, .reg .a => .swapA
  | .srl, .reg .b => .srlB
  | .srl, .reg .c => .srlC
  | .srl, .reg .d => .srlD
  | .srl, .reg .e => .srlE
  | .srl, .reg .h => .srlH
  | .srl, .reg .l => .srlL
  | .srl, .reg .a => .srlA
  | .rlc, .indHl => .rlcIndHl
  | .rrc, .indHl => .rrcIndHl
  | .rl, .indHl => .rlIndHl
  | .rr, .indHl => .rrIndHl
  | .sla, .indHl => .slaIndHl
  | .sra, .indHl => .sraIndHl
  | .swap, .indHl => .swapIndHl
  | .srl, .indHl => .srlIndHl

/-- `BIT b,loc` (R323). -/
def Instr.ofBit : Oct → Loc → Instr
  | .n0, .reg .b => .bit0B
  | .n0, .reg .c => .bit0C
  | .n0, .reg .d => .bit0D
  | .n0, .reg .e => .bit0E
  | .n0, .reg .h => .bit0H
  | .n0, .reg .l => .bit0L
  | .n0, .reg .a => .bit0A
  | .n1, .reg .b => .bit1B
  | .n1, .reg .c => .bit1C
  | .n1, .reg .d => .bit1D
  | .n1, .reg .e => .bit1E
  | .n1, .reg .h => .bit1H
  | .n1, .reg .l => .bit1L
  | .n1, .reg .a => .bit1A
  | .n2, .reg .b => .bit2B
  | .n2, .reg .c => .bit2C
  | .n2, .reg .d => .bit2D
  | .n2, .reg .e => .bit2E
  | .n2, .reg .h => .bit2H
  | .n2, .reg .l => .bit2L
  | .n2, .reg .a => .bit2A
  | .n3, .reg .b => .bit3B
  | .n3, .reg .c => .bit3C
  | .n3, .reg .d => .bit3D
  | .n3, .reg .e => .bit3E
  | .n3, .reg .h => .bit3H
  | .n3, .reg .l => .bit3L
  | .n3, .reg .a => .bit3A
  | .n4, .reg .b => .bit4B
  | .n4, .reg .c => .bit4C
  | .n4, .reg .d => .bit4D
  | .n4, .reg .e => .bit4E
  | .n4, .reg .h => .bit4H
  | .n4, .reg .l => .bit4L
  | .n4, .reg .a => .bit4A
  | .n5, .reg .b => .bit5B
  | .n5, .reg .c => .bit5C
  | .n5, .reg .d => .bit5D
  | .n5, .reg .e => .bit5E
  | .n5, .reg .h => .bit5H
  | .n5, .reg .l => .bit5L
  | .n5, .reg .a => .bit5A
  | .n6, .reg .b => .bit6B
  | .n6, .reg .c => .bit6C
  | .n6, .reg .d => .bit6D
  | .n6, .reg .e => .bit6E
  | .n6, .reg .h => .bit6H
  | .n6, .reg .l => .bit6L
  | .n6, .reg .a => .bit6A
  | .n7, .reg .b => .bit7B
  | .n7, .reg .c => .bit7C
  | .n7, .reg .d => .bit7D
  | .n7, .reg .e => .bit7E
  | .n7, .reg .h => .bit7H
  | .n7, .reg .l => .bit7L
  | .n7, .reg .a => .bit7A
  | .n0, .indHl => .bit0IndHl
  | .n1, .indHl => .bit1IndHl
  | .n2, .indHl => .bit2IndHl
  | .n3, .indHl => .bit3IndHl
  | .n4, .indHl => .bit4IndHl
  | .n5, .indHl => .bit5IndHl
  | .n6, .indHl => .bit6IndHl
  | .n7, .indHl => .bit7IndHl

/-- `RES b,loc` (R324). -/
def Instr.ofRes : Oct → Loc → Instr
  | .n0, .reg .b => .res0B
  | .n0, .reg .c => .res0C
  | .n0, .reg .d => .res0D
  | .n0, .reg .e => .res0E
  | .n0, .reg .h => .res0H
  | .n0, .reg .l => .res0L
  | .n0, .reg .a => .res0A
  | .n1, .reg .b => .res1B
  | .n1, .reg .c => .res1C
  | .n1, .reg .d => .res1D
  | .n1, .reg .e => .res1E
  | .n1, .reg .h => .res1H
  | .n1, .reg .l => .res1L
  | .n1, .reg .a => .res1A
  | .n2, .reg .b => .res2B
  | .n2, .reg .c => .res2C
  | .n2, .reg .d => .res2D
  | .n2, .reg .e => .res2E
  | .n2, .reg .h => .res2H
  | .n2, .reg .l => .res2L
  | .n2, .reg .a => .res2A
  | .n3, .reg .b => .res3B
  | .n3, .reg .c => .res3C
  | .n3, .reg .d => .res3D
  | .n3, .reg .e => .res3E
  | .n3, .reg .h => .res3H
  | .n3, .reg .l => .res3L
  | .n3, .reg .a => .res3A
  | .n4, .reg .b => .res4B
  | .n4, .reg .c => .res4C
  | .n4, .reg .d => .res4D
  | .n4, .reg .e => .res4E
  | .n4, .reg .h => .res4H
  | .n4, .reg .l => .res4L
  | .n4, .reg .a => .res4A
  | .n5, .reg .b => .res5B
  | .n5, .reg .c => .res5C
  | .n5, .reg .d => .res5D
  | .n5, .reg .e => .res5E
  | .n5, .reg .h => .res5H
  | .n5, .reg .l => .res5L
  | .n5, .reg .a => .res5A
  | .n6, .reg .b => .res6B
  | .n6, .reg .c => .res6C
  | .n6, .reg .d => .res6D
  | .n6, .reg .e => .res6E
  | .n6, .reg .h => .res6H
  | .n6, .reg .l => .res6L
  | .n6, .reg .a => .res6A
  | .n7, .reg .b => .res7B
  | .n7, .reg .c => .res7C
  | .n7, .reg .d => .res7D
  | .n7, .reg .e => .res7E
  | .n7, .reg .h => .res7H
  | .n7, .reg .l => .res7L
  | .n7, .reg .a => .res7A
  | .n0, .indHl => .res0IndHl
  | .n1, .indHl => .res1IndHl
  | .n2, .indHl => .res2IndHl
  | .n3, .indHl => .res3IndHl
  | .n4, .indHl => .res4IndHl
  | .n5, .indHl => .res5IndHl
  | .n6, .indHl => .res6IndHl
  | .n7, .indHl => .res7IndHl

/-- `SET b,loc` (R325). -/
def Instr.ofSet : Oct → Loc → Instr
  | .n0, .reg .b => .set0B
  | .n0, .reg .c => .set0C
  | .n0, .reg .d => .set0D
  | .n0, .reg .e => .set0E
  | .n0, .reg .h => .set0H
  | .n0, .reg .l => .set0L
  | .n0, .reg .a => .set0A
  | .n1, .reg .b => .set1B
  | .n1, .reg .c => .set1C
  | .n1, .reg .d => .set1D
  | .n1, .reg .e => .set1E
  | .n1, .reg .h => .set1H
  | .n1, .reg .l => .set1L
  | .n1, .reg .a => .set1A
  | .n2, .reg .b => .set2B
  | .n2, .reg .c => .set2C
  | .n2, .reg .d => .set2D
  | .n2, .reg .e => .set2E
  | .n2, .reg .h => .set2H
  | .n2, .reg .l => .set2L
  | .n2, .reg .a => .set2A
  | .n3, .reg .b => .set3B
  | .n3, .reg .c => .set3C
  | .n3, .reg .d => .set3D
  | .n3, .reg .e => .set3E
  | .n3, .reg .h => .set3H
  | .n3, .reg .l => .set3L
  | .n3, .reg .a => .set3A
  | .n4, .reg .b => .set4B
  | .n4, .reg .c => .set4C
  | .n4, .reg .d => .set4D
  | .n4, .reg .e => .set4E
  | .n4, .reg .h => .set4H
  | .n4, .reg .l => .set4L
  | .n4, .reg .a => .set4A
  | .n5, .reg .b => .set5B
  | .n5, .reg .c => .set5C
  | .n5, .reg .d => .set5D
  | .n5, .reg .e => .set5E
  | .n5, .reg .h => .set5H
  | .n5, .reg .l => .set5L
  | .n5, .reg .a => .set5A
  | .n6, .reg .b => .set6B
  | .n6, .reg .c => .set6C
  | .n6, .reg .d => .set6D
  | .n6, .reg .e => .set6E
  | .n6, .reg .h => .set6H
  | .n6, .reg .l => .set6L
  | .n6, .reg .a => .set6A
  | .n7, .reg .b => .set7B
  | .n7, .reg .c => .set7C
  | .n7, .reg .d => .set7D
  | .n7, .reg .e => .set7E
  | .n7, .reg .h => .set7H
  | .n7, .reg .l => .set7L
  | .n7, .reg .a => .set7A
  | .n0, .indHl => .set0IndHl
  | .n1, .indHl => .set1IndHl
  | .n2, .indHl => .set2IndHl
  | .n3, .indHl => .set3IndHl
  | .n4, .indHl => .set4IndHl
  | .n5, .indHl => .set5IndHl
  | .n6, .indHl => .set6IndHl
  | .n7, .indHl => .set7IndHl

/-- The eleven base opcodes with no instruction (R190). -/
inductive IllegalOp where
  | d3 | db | dd | e3 | e4 | eb | ec | ed | f4 | fc | fd
  deriving DecidableEq, Repr

/-- The row of an illegal byte (R190). -/
def Instr.ofIllegal : IllegalOp → Instr
  | .d3 => .illegalD3
  | .db => .illegalDB
  | .dd => .illegalDD
  | .e3 => .illegalE3
  | .e4 => .illegalE4
  | .eb => .illegalEB
  | .ec => .illegalEC
  | .ed => .illegalED
  | .f4 => .illegalF4
  | .fc => .illegalFC
  | .fd => .illegalFD

/-- The opcode byte of an illegal row (R190). -/
def IllegalOp.byte : IllegalOp → Byte
  | .d3 => 0xD3#8
  | .db => 0xDB#8
  | .dd => 0xDD#8
  | .e3 => 0xE3#8
  | .e4 => 0xE4#8
  | .eb => 0xEB#8
  | .ec => 0xEC#8
  | .ed => 0xED#8
  | .f4 => 0xF4#8
  | .fc => 0xFC#8
  | .fd => 0xFD#8

/-- R183's numbering of the register locations; the value 6 is (HL). -/
def locOf : Nat → Loc
  | 0 => .reg .b | 1 => .reg .c | 2 => .reg .d | 3 => .reg .e
  | 4 => .reg .h | 5 => .reg .l | 6 => .indHl | _ => .reg .a

/-- R184's numbering of `rp`. -/
def rpOf : Nat → Rp
  | 0 => .bc | 1 => .de | 2 => .hl | _ => .sp

/-- R184's numbering of `rp2`. -/
def rp2Of : Nat → Rp2
  | 0 => .bc | 1 => .de | 2 => .hl | _ => .af

/-- The pointer of the one-byte A loads and stores, by `p` (R205-R212). -/
def ptrOf : Nat → Ptr
  | 0 => .bc | 1 => .de | 2 => .hlInc | _ => .hlDec

/-- R185's numbering of the conditions. -/
def condOf : Nat → Cond
  | 0 => .nz | 1 => .z | 2 => .nc | _ => .c

/-- R186's numbering of the ALU operations. -/
def aluOf : Nat → AluOp
  | 0 => .add | 1 => .adc | 2 => .sub | 3 => .sbc | 4 => .and | 5 => .xor | 6 => .or | _ => .cp

/-- R186's numbering of the rotates and shifts. -/
def shiftOf : Nat → ShiftOp
  | 0 => .rlc | 1 => .rrc | 2 => .rl | 3 => .rr | 4 => .sla | 5 => .sra | 6 => .swap | _ => .srl

/-- A three-bit field as a number. -/
def octOf : Nat → Oct
  | 0 => .n0 | 1 => .n1 | 2 => .n2 | 3 => .n3 | 4 => .n4 | 5 => .n5 | 6 => .n6 | _ => .n7

/-- The number a three-bit field holds. -/
def Oct.val : Oct → Nat
  | .n0 => 0 | .n1 => 1 | .n2 => 2 | .n3 => 3 | .n4 => 4 | .n5 => 5 | .n6 => 6 | .n7 => 7

/-- The source operand at a location (R250). -/
def srcOf : Loc → Src
  | .reg r => .reg r
  | .indHl => .indHl

/-- `LD` between two locations (x = 1): both (HL) is `HALT` (R188). -/
def decodeLd : Loc → Loc → Instr
  | .reg dst, .reg src => .ofLd dst src
  | .reg dst, .indHl => .ofLdInd dst
  | .indHl, .reg src => .ofStInd src
  | .indHl, .indHl => .halt

/-- The extended table (R186, R189, R314): every second byte is an instruction. -/
def decodeCb (op2 : Byte) : Instr :=
  let y := op2.toNat / 8 % 8
  let l := locOf (op2.toNat % 8)
  match op2.toNat / 64 with
  | 0 => .ofShift (shiftOf y) l
  | 1 => .ofBit (octOf y) l
  | 2 => .ofRes (octOf y) l
  | _ => .ofSet (octOf y) l

/-- Base opcodes with x = 0, by z and y (R182, R189). -/
def decodeX0 (y z : Nat) (b1 b2 : Byte) : Instr :=
  match z with
  | 0 =>
    match y with
    | 0 => .nop
    | 1 => .ldIndA16Sp (wordOf b2 b1)
    | 2 => .stop b1
    | 3 => .jrE8 b1
    | k + 4 => .ofJr (condOf k) b1
  | 1 => if y % 2 = 0 then .ofLdPair (rpOf (y / 2)) (wordOf b2 b1) else .ofAddHl (rpOf (y / 2))
  | 2 => if y % 2 = 0 then .ofStPtr (ptrOf (y / 2)) else .ofLdPtr (ptrOf (y / 2))
  | 3 => if y % 2 = 0 then .ofIncPair (rpOf (y / 2)) else .ofDecPair (rpOf (y / 2))
  | 4 => .ofInc (locOf y)
  | 5 => .ofDec (locOf y)
  | 6 =>
    match locOf y with
    | .reg r => .ofLdImm r b1
    | .indHl => .ldIndHlD8 b1
  | _ =>
    match y with
    | 0 => .rlca
    | 1 => .rrca
    | 2 => .rla
    | 3 => .rra
    | 4 => .daa
    | 5 => .cpl
    | 6 => .scf
    | _ => .ccf

/-- Base opcodes with x = 3, by z and y (R182, R189, R190). -/
def decodeX3 (y z : Nat) (b1 b2 : Byte) : Instr :=
  match z with
  | 0 =>
    match y with
    | 4 => .ldhIndA8A b1
    | 5 => .addSpE8 b1
    | 6 => .ldhAIndA8 b1
    | 7 => .ldHlSpE8 b1
    | k => .ofRet (condOf k)
  | 1 =>
    match y with
    | 1 => .ret
    | 3 => .reti
    | 5 => .jpHl
    | 7 => .ldSpHl
    | k => .ofPop (rp2Of (k / 2))
  | 2 =>
    match y with
    | 4 => .ldIndCA
    | 5 => .ldIndA16A (wordOf b2 b1)
    | 6 => .ldAIndC
    | 7 => .ldAIndA16 (wordOf b2 b1)
    | k => .ofJp (condOf k) (wordOf b2 b1)
  | 3 =>
    match y with
    | 0 => .jpA16 (wordOf b2 b1)
    | 1 => decodeCb b1
    | 2 => .illegalD3
    | 3 => .illegalDB
    | 4 => .illegalE3
    | 5 => .illegalEB
    | 6 => .di
    | _ => .ei
  | 4 =>
    match y with
    | 4 => .illegalE4
    | 5 => .illegalEC
    | 6 => .illegalF4
    | 7 => .illegalFC
    | k => .ofCall (condOf k) (wordOf b2 b1)
  | 5 =>
    match y with
    | 1 => .callA16 (wordOf b2 b1)
    | 3 => .illegalDD
    | 5 => .illegalED
    | 7 => .illegalFD
    | k => .ofPush (rp2Of (k / 2))
  | 6 => .ofAlu (aluOf y) (.imm b1)
  | _ => .ofRst (octOf y)

/-- The instruction whose first byte is `op` and whose next two bytes are `b1`, `b2`; a byte past the
instruction's length (R192) is not looked at. -/
def decodeBytes (op b1 b2 : Byte) : Instr :=
  let y := op.toNat / 8 % 8
  let z := op.toNat % 8
  match op.toNat / 64 with
  | 0 => decodeX0 y z b1 b2
  | 1 => decodeLd (locOf y) (locOf z)
  | 2 => .ofAlu (aluOf y) (srcOf (locOf z))
  | _ => decodeX3 y z b1 b2

/-- The opcodes of two-byte instructions (R192); 0xCB is among them. -/
def twoByteOps : List Nat :=
  [0xCB, 0x10, 0x18, 0x20, 0x28, 0x30, 0x38, 0x06, 0x0E, 0x16, 0x1E, 0x26, 0x2E, 0x36, 0x3E] ++
    [0xE0, 0xE8, 0xF0, 0xF8, 0xC6, 0xCE, 0xD6, 0xDE, 0xE6, 0xEE, 0xF6, 0xFE]

/-- The opcodes of three-byte instructions (R192). -/
def threeByteOps : List Nat :=
  [0x01, 0x11, 0x21, 0x31, 0x08, 0xC2, 0xCA, 0xD2, 0xDA, 0xC3, 0xC4, 0xCC, 0xD4, 0xDC, 0xCD, 0xEA, 0xFA]

/-- "A decoder tells an instruction's length from its first byte alone" (R192). -/
def instrLength (op : Byte) : Nat :=
  if twoByteOps.contains op.toNat then 2 else if threeByteOps.contains op.toNat then 3 else 1

/-- Why a byte list does not decode: every whole byte sequence does (R190), so only a list that ends too
early is rejected. -/
inductive DecodeError where
  /-- No byte at all. -/
  | empty
  /-- The first byte needs `need` bytes in all and the list holds `have_`. -/
  | truncated (need have_ : Nat)
  deriving DecidableEq, Repr

/-- Decode the first instruction of a byte list and give the rest. The lone byte 0xCB reads as the opcode
table's row `PREFIX CB`, which is not a whole instruction (R191; notes/assumptions/11.md). -/
def decode : List Byte → Except DecodeError (Instr × List Byte)
  | [] => .error .empty
  | [op] =>
    if op = 0xCB#8 then .ok (.prefixCb, [])
    else if instrLength op = 1 then .ok (decodeBytes op 0 0, []) else .error (.truncated (instrLength op) 1)
  | [op, b1] =>
    match instrLength op with
    | 1 => .ok (decodeBytes op 0 0, [b1])
    | 2 => .ok (decodeBytes op b1 0, [])
    | n => .error (.truncated n 2)
  | op :: b1 :: b2 :: rest =>
    match instrLength op with
    | 1 => .ok (decodeBytes op 0 0, b1 :: b2 :: rest)
    | 2 => .ok (decodeBytes op b1 0, b2 :: rest)
    | _ => .ok (decodeBytes op b1 b2, rest)

/-- The bytes of an instruction, from the opcode maps of R189 and the formats of R181 (low byte first). -/
def encode (i : Instr) : List Byte :=
  match i with
  | .nop => [0x00#8]
  | .ldBcD16 v => [0x01#8, loByte v, hiByte v]
  | .ldIndBcA => [0x02#8]
  | .incBc => [0x03#8]
  | .incB => [0x04#8]
  | .decB => [0x05#8]
  | .ldBD8 v => [0x06#8, v]
  | .rlca => [0x07#8]
  | .ldIndA16Sp v => [0x08#8, loByte v, hiByte v]
  | .addHlBc => [0x09#8]
  | .ldAIndBc => [0x0A#8]
  | .decBc => [0x0B#8]
  | .incC => [0x0C#8]
  | .decC => [0x0D#8]
  | .ldCD8 v => [0x0E#8, v]
  | .rrca => [0x0F#8]
  | .stop v => [0x10#8, v]
  | .ldDeD16 v => [0x11#8, loByte v, hiByte v]
  | .ldIndDeA => [0x12#8]
  | .incDe => [0x13#8]
  | .incD => [0x14#8]
  | .decD => [0x15#8]
  | .ldDD8 v => [0x16#8, v]
  | .rla => [0x17#8]
  | .jrE8 v => [0x18#8, v]
  | .addHlDe => [0x19#8]
  | .ldAIndDe => [0x1A#8]
  | .decDe => [0x1B#8]
  | .incE => [0x1C#8]
  | .decE => [0x1D#8]
  | .ldED8 v => [0x1E#8, v]
  | .rra => [0x1F#8]
  | .jrNzE8 v => [0x20#8, v]
  | .ldHlD16 v => [0x21#8, loByte v, hiByte v]
  | .ldIndHlIncA => [0x22#8]
  | .incHl => [0x23#8]
  | .incH => [0x24#8]
  | .decH => [0x25#8]
  | .ldHD8 v => [0x26#8, v]
  | .daa => [0x27#8]
  | .jrZE8 v => [0x28#8, v]
  | .addHlHl => [0x29#8]
  | .ldAIndHlInc => [0x2A#8]
  | .decHl => [0x2B#8]
  | .incL => [0x2C#8]
  | .decL => [0x2D#8]
  | .ldLD8 v => [0x2E#8, v]
  | .cpl => [0x2F#8]
  | .jrNcE8 v => [0x30#8, v]
  | .ldSpD16 v => [0x31#8, loByte v, hiByte v]
  | .ldIndHlDecA => [0x32#8]
  | .incSp => [0x33#8]
  | .incIndHl => [0x34#8]
  | .decIndHl => [0x35#8]
  | .ldIndHlD8 v => [0x36#8, v]
  | .scf => [0x37#8]
  | .jrCE8 v => [0x38#8, v]
  | .addHlSp => [0x39#8]
  | .ldAIndHlDec => [0x3A#8]
  | .decSp => [0x3B#8]
  | .incA => [0x3C#8]
  | .decA => [0x3D#8]
  | .ldAD8 v => [0x3E#8, v]
  | .ccf => [0x3F#8]
  | .ldBB => [0x40#8]
  | .ldBC => [0x41#8]
  | .ldBD => [0x42#8]
  | .ldBE => [0x43#8]
  | .ldBH => [0x44#8]
  | .ldBL => [0x45#8]
  | .ldBIndHl => [0x46#8]
  | .ldBA => [0x47#8]
  | .ldCB => [0x48#8]
  | .ldCC => [0x49#8]
  | .ldCD => [0x4A#8]
  | .ldCE => [0x4B#8]
  | .ldCH => [0x4C#8]
  | .ldCL => [0x4D#8]
  | .ldCIndHl => [0x4E#8]
  | .ldCA => [0x4F#8]
  | .ldDB => [0x50#8]
  | .ldDC => [0x51#8]
  | .ldDD => [0x52#8]
  | .ldDE => [0x53#8]
  | .ldDH => [0x54#8]
  | .ldDL => [0x55#8]
  | .ldDIndHl => [0x56#8]
  | .ldDA => [0x57#8]
  | .ldEB => [0x58#8]
  | .ldEC => [0x59#8]
  | .ldED => [0x5A#8]
  | .ldEE => [0x5B#8]
  | .ldEH => [0x5C#8]
  | .ldEL => [0x5D#8]
  | .ldEIndHl => [0x5E#8]
  | .ldEA => [0x5F#8]
  | .ldHB => [0x60#8]
  | .ldHC => [0x61#8]
  | .ldHD => [0x62#8]
  | .ldHE => [0x63#8]
  | .ldHH => [0x64#8]
  | .ldHL => [0x65#8]
  | .ldHIndHl => [0x66#8]
  | .ldHA => [0x67#8]
  | .ldLB => [0x68#8]
  | .ldLC => [0x69#8]
  | .ldLD => [0x6A#8]
  | .ldLE => [0x6B#8]
  | .ldLH => [0x6C#8]
  | .ldLL => [0x6D#8]
  | .ldLIndHl => [0x6E#8]
  | .ldLA => [0x6F#8]
  | .ldIndHlB => [0x70#8]
  | .ldIndHlC => [0x71#8]
  | .ldIndHlD => [0x72#8]
  | .ldIndHlE => [0x73#8]
  | .ldIndHlH => [0x74#8]
  | .ldIndHlL => [0x75#8]
  | .halt => [0x76#8]
  | .ldIndHlA => [0x77#8]
  | .ldAB => [0x78#8]
  | .ldAC => [0x79#8]
  | .ldAD => [0x7A#8]
  | .ldAE => [0x7B#8]
  | .ldAH => [0x7C#8]
  | .ldAL => [0x7D#8]
  | .ldAIndHl => [0x7E#8]
  | .ldAA => [0x7F#8]
  | .addAB => [0x80#8]
  | .addAC => [0x81#8]
  | .addAD => [0x82#8]
  | .addAE => [0x83#8]
  | .addAH => [0x84#8]
  | .addAL => [0x85#8]
  | .addAIndHl => [0x86#8]
  | .addAA => [0x87#8]
  | .adcAB => [0x88#8]
  | .adcAC => [0x89#8]
  | .adcAD => [0x8A#8]
  | .adcAE => [0x8B#8]
  | .adcAH => [0x8C#8]
  | .adcAL => [0x8D#8]
  | .adcAIndHl => [0x8E#8]
  | .adcAA => [0x8F#8]
  | .subB => [0x90#8]
  | .subC => [0x91#8]
  | .subD => [0x92#8]
  | .subE => [0x93#8]
  | .subH => [0x94#8]
  | .subL => [0x95#8]
  | .subIndHl => [0x96#8]
  | .subA => [0x97#8]
  | .sbcAB => [0x98#8]
  | .sbcAC => [0x99#8]
  | .sbcAD => [0x9A#8]
  | .sbcAE => [0x9B#8]
  | .sbcAH => [0x9C#8]
  | .sbcAL => [0x9D#8]
  | .sbcAIndHl => [0x9E#8]
  | .sbcAA => [0x9F#8]
  | .andB => [0xA0#8]
  | .andC => [0xA1#8]
  | .andD => [0xA2#8]
  | .andE => [0xA3#8]
  | .andH => [0xA4#8]
  | .andL => [0xA5#8]
  | .andIndHl => [0xA6#8]
  | .andA => [0xA7#8]
  | .xorB => [0xA8#8]
  | .xorC => [0xA9#8]
  | .xorD => [0xAA#8]
  | .xorE => [0xAB#8]
  | .xorH => [0xAC#8]
  | .xorL => [0xAD#8]
  | .xorIndHl => [0xAE#8]
  | .xorA => [0xAF#8]
  | .orB => [0xB0#8]
  | .orC => [0xB1#8]
  | .orD => [0xB2#8]
  | .orE => [0xB3#8]
  | .orH => [0xB4#8]
  | .orL => [0xB5#8]
  | .orIndHl => [0xB6#8]
  | .orA => [0xB7#8]
  | .cpB => [0xB8#8]
  | .cpC => [0xB9#8]
  | .cpD => [0xBA#8]
  | .cpE => [0xBB#8]
  | .cpH => [0xBC#8]
  | .cpL => [0xBD#8]
  | .cpIndHl => [0xBE#8]
  | .cpA => [0xBF#8]
  | .retNz => [0xC0#8]
  | .popBc => [0xC1#8]
  | .jpNzA16 v => [0xC2#8, loByte v, hiByte v]
  | .jpA16 v => [0xC3#8, loByte v, hiByte v]
  | .callNzA16 v => [0xC4#8, loByte v, hiByte v]
  | .pushBc => [0xC5#8]
  | .addAD8 v => [0xC6#8, v]
  | .rst00 => [0xC7#8]
  | .retZ => [0xC8#8]
  | .ret => [0xC9#8]
  | .jpZA16 v => [0xCA#8, loByte v, hiByte v]
  | .prefixCb => [0xCB#8]
  | .callZA16 v => [0xCC#8, loByte v, hiByte v]
  | .callA16 v => [0xCD#8, loByte v, hiByte v]
  | .adcAD8 v => [0xCE#8, v]
  | .rst08 => [0xCF#8]
  | .retNc => [0xD0#8]
  | .popDe => [0xD1#8]
  | .jpNcA16 v => [0xD2#8, loByte v, hiByte v]
  | .illegalD3 => [0xD3#8]
  | .callNcA16 v => [0xD4#8, loByte v, hiByte v]
  | .pushDe => [0xD5#8]
  | .subD8 v => [0xD6#8, v]
  | .rst10 => [0xD7#8]
  | .retC => [0xD8#8]
  | .reti => [0xD9#8]
  | .jpCA16 v => [0xDA#8, loByte v, hiByte v]
  | .illegalDB => [0xDB#8]
  | .callCA16 v => [0xDC#8, loByte v, hiByte v]
  | .illegalDD => [0xDD#8]
  | .sbcAD8 v => [0xDE#8, v]
  | .rst18 => [0xDF#8]
  | .ldhIndA8A v => [0xE0#8, v]
  | .popHl => [0xE1#8]
  | .ldIndCA => [0xE2#8]
  | .illegalE3 => [0xE3#8]
  | .illegalE4 => [0xE4#8]
  | .pushHl => [0xE5#8]
  | .andD8 v => [0xE6#8, v]
  | .rst20 => [0xE7#8]
  | .addSpE8 v => [0xE8#8, v]
  | .jpHl => [0xE9#8]
  | .ldIndA16A v => [0xEA#8, loByte v, hiByte v]
  | .illegalEB => [0xEB#8]
  | .illegalEC => [0xEC#8]
  | .illegalED => [0xED#8]
  | .xorD8 v => [0xEE#8, v]
  | .rst28 => [0xEF#8]
  | .ldhAIndA8 v => [0xF0#8, v]
  | .popAf => [0xF1#8]
  | .ldAIndC => [0xF2#8]
  | .di => [0xF3#8]
  | .illegalF4 => [0xF4#8]
  | .pushAf => [0xF5#8]
  | .orD8 v => [0xF6#8, v]
  | .rst30 => [0xF7#8]
  | .ldHlSpE8 v => [0xF8#8, v]
  | .ldSpHl => [0xF9#8]
  | .ldAIndA16 v => [0xFA#8, loByte v, hiByte v]
  | .ei => [0xFB#8]
  | .illegalFC => [0xFC#8]
  | .illegalFD => [0xFD#8]
  | .cpD8 v => [0xFE#8, v]
  | .rst38 => [0xFF#8]
  | .rlcB => [0xCB#8, 0x00#8]
  | .rlcC => [0xCB#8, 0x01#8]
  | .rlcD => [0xCB#8, 0x02#8]
  | .rlcE => [0xCB#8, 0x03#8]
  | .rlcH => [0xCB#8, 0x04#8]
  | .rlcL => [0xCB#8, 0x05#8]
  | .rlcIndHl => [0xCB#8, 0x06#8]
  | .rlcA => [0xCB#8, 0x07#8]
  | .rrcB => [0xCB#8, 0x08#8]
  | .rrcC => [0xCB#8, 0x09#8]
  | .rrcD => [0xCB#8, 0x0A#8]
  | .rrcE => [0xCB#8, 0x0B#8]
  | .rrcH => [0xCB#8, 0x0C#8]
  | .rrcL => [0xCB#8, 0x0D#8]
  | .rrcIndHl => [0xCB#8, 0x0E#8]
  | .rrcA => [0xCB#8, 0x0F#8]
  | .rlB => [0xCB#8, 0x10#8]
  | .rlC => [0xCB#8, 0x11#8]
  | .rlD => [0xCB#8, 0x12#8]
  | .rlE => [0xCB#8, 0x13#8]
  | .rlH => [0xCB#8, 0x14#8]
  | .rlL => [0xCB#8, 0x15#8]
  | .rlIndHl => [0xCB#8, 0x16#8]
  | .rlA => [0xCB#8, 0x17#8]
  | .rrB => [0xCB#8, 0x18#8]
  | .rrC => [0xCB#8, 0x19#8]
  | .rrD => [0xCB#8, 0x1A#8]
  | .rrE => [0xCB#8, 0x1B#8]
  | .rrH => [0xCB#8, 0x1C#8]
  | .rrL => [0xCB#8, 0x1D#8]
  | .rrIndHl => [0xCB#8, 0x1E#8]
  | .rrA => [0xCB#8, 0x1F#8]
  | .slaB => [0xCB#8, 0x20#8]
  | .slaC => [0xCB#8, 0x21#8]
  | .slaD => [0xCB#8, 0x22#8]
  | .slaE => [0xCB#8, 0x23#8]
  | .slaH => [0xCB#8, 0x24#8]
  | .slaL => [0xCB#8, 0x25#8]
  | .slaIndHl => [0xCB#8, 0x26#8]
  | .slaA => [0xCB#8, 0x27#8]
  | .sraB => [0xCB#8, 0x28#8]
  | .sraC => [0xCB#8, 0x29#8]
  | .sraD => [0xCB#8, 0x2A#8]
  | .sraE => [0xCB#8, 0x2B#8]
  | .sraH => [0xCB#8, 0x2C#8]
  | .sraL => [0xCB#8, 0x2D#8]
  | .sraIndHl => [0xCB#8, 0x2E#8]
  | .sraA => [0xCB#8, 0x2F#8]
  | .swapB => [0xCB#8, 0x30#8]
  | .swapC => [0xCB#8, 0x31#8]
  | .swapD => [0xCB#8, 0x32#8]
  | .swapE => [0xCB#8, 0x33#8]
  | .swapH => [0xCB#8, 0x34#8]
  | .swapL => [0xCB#8, 0x35#8]
  | .swapIndHl => [0xCB#8, 0x36#8]
  | .swapA => [0xCB#8, 0x37#8]
  | .srlB => [0xCB#8, 0x38#8]
  | .srlC => [0xCB#8, 0x39#8]
  | .srlD => [0xCB#8, 0x3A#8]
  | .srlE => [0xCB#8, 0x3B#8]
  | .srlH => [0xCB#8, 0x3C#8]
  | .srlL => [0xCB#8, 0x3D#8]
  | .srlIndHl => [0xCB#8, 0x3E#8]
  | .srlA => [0xCB#8, 0x3F#8]
  | .bit0B => [0xCB#8, 0x40#8]
  | .bit0C => [0xCB#8, 0x41#8]
  | .bit0D => [0xCB#8, 0x42#8]
  | .bit0E => [0xCB#8, 0x43#8]
  | .bit0H => [0xCB#8, 0x44#8]
  | .bit0L => [0xCB#8, 0x45#8]
  | .bit0IndHl => [0xCB#8, 0x46#8]
  | .bit0A => [0xCB#8, 0x47#8]
  | .bit1B => [0xCB#8, 0x48#8]
  | .bit1C => [0xCB#8, 0x49#8]
  | .bit1D => [0xCB#8, 0x4A#8]
  | .bit1E => [0xCB#8, 0x4B#8]
  | .bit1H => [0xCB#8, 0x4C#8]
  | .bit1L => [0xCB#8, 0x4D#8]
  | .bit1IndHl => [0xCB#8, 0x4E#8]
  | .bit1A => [0xCB#8, 0x4F#8]
  | .bit2B => [0xCB#8, 0x50#8]
  | .bit2C => [0xCB#8, 0x51#8]
  | .bit2D => [0xCB#8, 0x52#8]
  | .bit2E => [0xCB#8, 0x53#8]
  | .bit2H => [0xCB#8, 0x54#8]
  | .bit2L => [0xCB#8, 0x55#8]
  | .bit2IndHl => [0xCB#8, 0x56#8]
  | .bit2A => [0xCB#8, 0x57#8]
  | .bit3B => [0xCB#8, 0x58#8]
  | .bit3C => [0xCB#8, 0x59#8]
  | .bit3D => [0xCB#8, 0x5A#8]
  | .bit3E => [0xCB#8, 0x5B#8]
  | .bit3H => [0xCB#8, 0x5C#8]
  | .bit3L => [0xCB#8, 0x5D#8]
  | .bit3IndHl => [0xCB#8, 0x5E#8]
  | .bit3A => [0xCB#8, 0x5F#8]
  | .bit4B => [0xCB#8, 0x60#8]
  | .bit4C => [0xCB#8, 0x61#8]
  | .bit4D => [0xCB#8, 0x62#8]
  | .bit4E => [0xCB#8, 0x63#8]
  | .bit4H => [0xCB#8, 0x64#8]
  | .bit4L => [0xCB#8, 0x65#8]
  | .bit4IndHl => [0xCB#8, 0x66#8]
  | .bit4A => [0xCB#8, 0x67#8]
  | .bit5B => [0xCB#8, 0x68#8]
  | .bit5C => [0xCB#8, 0x69#8]
  | .bit5D => [0xCB#8, 0x6A#8]
  | .bit5E => [0xCB#8, 0x6B#8]
  | .bit5H => [0xCB#8, 0x6C#8]
  | .bit5L => [0xCB#8, 0x6D#8]
  | .bit5IndHl => [0xCB#8, 0x6E#8]
  | .bit5A => [0xCB#8, 0x6F#8]
  | .bit6B => [0xCB#8, 0x70#8]
  | .bit6C => [0xCB#8, 0x71#8]
  | .bit6D => [0xCB#8, 0x72#8]
  | .bit6E => [0xCB#8, 0x73#8]
  | .bit6H => [0xCB#8, 0x74#8]
  | .bit6L => [0xCB#8, 0x75#8]
  | .bit6IndHl => [0xCB#8, 0x76#8]
  | .bit6A => [0xCB#8, 0x77#8]
  | .bit7B => [0xCB#8, 0x78#8]
  | .bit7C => [0xCB#8, 0x79#8]
  | .bit7D => [0xCB#8, 0x7A#8]
  | .bit7E => [0xCB#8, 0x7B#8]
  | .bit7H => [0xCB#8, 0x7C#8]
  | .bit7L => [0xCB#8, 0x7D#8]
  | .bit7IndHl => [0xCB#8, 0x7E#8]
  | .bit7A => [0xCB#8, 0x7F#8]
  | .res0B => [0xCB#8, 0x80#8]
  | .res0C => [0xCB#8, 0x81#8]
  | .res0D => [0xCB#8, 0x82#8]
  | .res0E => [0xCB#8, 0x83#8]
  | .res0H => [0xCB#8, 0x84#8]
  | .res0L => [0xCB#8, 0x85#8]
  | .res0IndHl => [0xCB#8, 0x86#8]
  | .res0A => [0xCB#8, 0x87#8]
  | .res1B => [0xCB#8, 0x88#8]
  | .res1C => [0xCB#8, 0x89#8]
  | .res1D => [0xCB#8, 0x8A#8]
  | .res1E => [0xCB#8, 0x8B#8]
  | .res1H => [0xCB#8, 0x8C#8]
  | .res1L => [0xCB#8, 0x8D#8]
  | .res1IndHl => [0xCB#8, 0x8E#8]
  | .res1A => [0xCB#8, 0x8F#8]
  | .res2B => [0xCB#8, 0x90#8]
  | .res2C => [0xCB#8, 0x91#8]
  | .res2D => [0xCB#8, 0x92#8]
  | .res2E => [0xCB#8, 0x93#8]
  | .res2H => [0xCB#8, 0x94#8]
  | .res2L => [0xCB#8, 0x95#8]
  | .res2IndHl => [0xCB#8, 0x96#8]
  | .res2A => [0xCB#8, 0x97#8]
  | .res3B => [0xCB#8, 0x98#8]
  | .res3C => [0xCB#8, 0x99#8]
  | .res3D => [0xCB#8, 0x9A#8]
  | .res3E => [0xCB#8, 0x9B#8]
  | .res3H => [0xCB#8, 0x9C#8]
  | .res3L => [0xCB#8, 0x9D#8]
  | .res3IndHl => [0xCB#8, 0x9E#8]
  | .res3A => [0xCB#8, 0x9F#8]
  | .res4B => [0xCB#8, 0xA0#8]
  | .res4C => [0xCB#8, 0xA1#8]
  | .res4D => [0xCB#8, 0xA2#8]
  | .res4E => [0xCB#8, 0xA3#8]
  | .res4H => [0xCB#8, 0xA4#8]
  | .res4L => [0xCB#8, 0xA5#8]
  | .res4IndHl => [0xCB#8, 0xA6#8]
  | .res4A => [0xCB#8, 0xA7#8]
  | .res5B => [0xCB#8, 0xA8#8]
  | .res5C => [0xCB#8, 0xA9#8]
  | .res5D => [0xCB#8, 0xAA#8]
  | .res5E => [0xCB#8, 0xAB#8]
  | .res5H => [0xCB#8, 0xAC#8]
  | .res5L => [0xCB#8, 0xAD#8]
  | .res5IndHl => [0xCB#8, 0xAE#8]
  | .res5A => [0xCB#8, 0xAF#8]
  | .res6B => [0xCB#8, 0xB0#8]
  | .res6C => [0xCB#8, 0xB1#8]
  | .res6D => [0xCB#8, 0xB2#8]
  | .res6E => [0xCB#8, 0xB3#8]
  | .res6H => [0xCB#8, 0xB4#8]
  | .res6L => [0xCB#8, 0xB5#8]
  | .res6IndHl => [0xCB#8, 0xB6#8]
  | .res6A => [0xCB#8, 0xB7#8]
  | .res7B => [0xCB#8, 0xB8#8]
  | .res7C => [0xCB#8, 0xB9#8]
  | .res7D => [0xCB#8, 0xBA#8]
  | .res7E => [0xCB#8, 0xBB#8]
  | .res7H => [0xCB#8, 0xBC#8]
  | .res7L => [0xCB#8, 0xBD#8]
  | .res7IndHl => [0xCB#8, 0xBE#8]
  | .res7A => [0xCB#8, 0xBF#8]
  | .set0B => [0xCB#8, 0xC0#8]
  | .set0C => [0xCB#8, 0xC1#8]
  | .set0D => [0xCB#8, 0xC2#8]
  | .set0E => [0xCB#8, 0xC3#8]
  | .set0H => [0xCB#8, 0xC4#8]
  | .set0L => [0xCB#8, 0xC5#8]
  | .set0IndHl => [0xCB#8, 0xC6#8]
  | .set0A => [0xCB#8, 0xC7#8]
  | .set1B => [0xCB#8, 0xC8#8]
  | .set1C => [0xCB#8, 0xC9#8]
  | .set1D => [0xCB#8, 0xCA#8]
  | .set1E => [0xCB#8, 0xCB#8]
  | .set1H => [0xCB#8, 0xCC#8]
  | .set1L => [0xCB#8, 0xCD#8]
  | .set1IndHl => [0xCB#8, 0xCE#8]
  | .set1A => [0xCB#8, 0xCF#8]
  | .set2B => [0xCB#8, 0xD0#8]
  | .set2C => [0xCB#8, 0xD1#8]
  | .set2D => [0xCB#8, 0xD2#8]
  | .set2E => [0xCB#8, 0xD3#8]
  | .set2H => [0xCB#8, 0xD4#8]
  | .set2L => [0xCB#8, 0xD5#8]
  | .set2IndHl => [0xCB#8, 0xD6#8]
  | .set2A => [0xCB#8, 0xD7#8]
  | .set3B => [0xCB#8, 0xD8#8]
  | .set3C => [0xCB#8, 0xD9#8]
  | .set3D => [0xCB#8, 0xDA#8]
  | .set3E => [0xCB#8, 0xDB#8]
  | .set3H => [0xCB#8, 0xDC#8]
  | .set3L => [0xCB#8, 0xDD#8]
  | .set3IndHl => [0xCB#8, 0xDE#8]
  | .set3A => [0xCB#8, 0xDF#8]
  | .set4B => [0xCB#8, 0xE0#8]
  | .set4C => [0xCB#8, 0xE1#8]
  | .set4D => [0xCB#8, 0xE2#8]
  | .set4E => [0xCB#8, 0xE3#8]
  | .set4H => [0xCB#8, 0xE4#8]
  | .set4L => [0xCB#8, 0xE5#8]
  | .set4IndHl => [0xCB#8, 0xE6#8]
  | .set4A => [0xCB#8, 0xE7#8]
  | .set5B => [0xCB#8, 0xE8#8]
  | .set5C => [0xCB#8, 0xE9#8]
  | .set5D => [0xCB#8, 0xEA#8]
  | .set5E => [0xCB#8, 0xEB#8]
  | .set5H => [0xCB#8, 0xEC#8]
  | .set5L => [0xCB#8, 0xED#8]
  | .set5IndHl => [0xCB#8, 0xEE#8]
  | .set5A => [0xCB#8, 0xEF#8]
  | .set6B => [0xCB#8, 0xF0#8]
  | .set6C => [0xCB#8, 0xF1#8]
  | .set6D => [0xCB#8, 0xF2#8]
  | .set6E => [0xCB#8, 0xF3#8]
  | .set6H => [0xCB#8, 0xF4#8]
  | .set6L => [0xCB#8, 0xF5#8]
  | .set6IndHl => [0xCB#8, 0xF6#8]
  | .set6A => [0xCB#8, 0xF7#8]
  | .set7B => [0xCB#8, 0xF8#8]
  | .set7C => [0xCB#8, 0xF9#8]
  | .set7D => [0xCB#8, 0xFA#8]
  | .set7E => [0xCB#8, 0xFB#8]
  | .set7H => [0xCB#8, 0xFC#8]
  | .set7L => [0xCB#8, 0xFD#8]
  | .set7IndHl => [0xCB#8, 0xFE#8]
  | .set7A => [0xCB#8, 0xFF#8]

/-- The bytes of a table word in memory order. A row of the base table numbers its first byte as bits 7..0; a
row of the extended table is the number `first_byte * 256 + second_byte` (R195), so there the byte 0xCB in bits
15..8 is the first byte (notes/assumptions/12.md). Later bytes count on, least significant first. -/
def tableBytes (nbits w : Nat) : List Byte :=
  if nbits = 16 ∧ w / 256 % 256 = 0xCB then [0xCB#8, BitVec.ofNat 8 w]
  else
    match nbits / 8 with
    | 0 => []
    | 1 => [BitVec.ofNat 8 w]
    | 2 => [BitVec.ofNat 8 w, BitVec.ofNat 8 (w / 256)]
    | _ => [BitVec.ofNat 8 w, BitVec.ofNat 8 (w / 256), BitVec.ofNat 8 (w / 65536)]

/-- The instruction a decode result holds. -/
def decodedInstr : Except DecodeError (Instr × List Byte) → Option Instr
  | .ok (i, _) => some i
  | .error _ => none

/-- The instruction the decoder reads from a word of spec/opcode_table.json. The table's bits go to the decoder
as they stand; where it says the list is too short, operand bytes of zero follow. -/
def decodeTableWord (nbits w : Nat) : Option Instr :=
  match decode (tableBytes nbits w) with
  | .ok (i, _) => some i
  | .error _ => decodedInstr (decode (tableBytes nbits w ++ [0#8, 0#8]))

end Sys2Proof
end

