-- ==== Sys2Proof/Config.lean ====
section
/-! DEFINITION. What an implementation fixes (the parameters of 00_scope.md R10) and the free values: constants with no body, about which nothing can be proved. -/

namespace Sys2Proof

/-- The `n`-th draw of a run: "any 8-bit value, under no law, chosen afresh at each use" (R17).
`State.draws` counts them (notes/assumptions/2.md). -/
opaque Config.freeByte (n : Nat) : Byte

/-- `INIT_MEM` (R10, 10_state.md R59) for VRAM, WRAM, OAM and HRAM, by CPU address (notes/assumptions/1.md). -/
opaque Config.initMem (addr : Nat) : Byte

/-- `INIT_MEM` (R10, 10_state.md R59) for cartridge RAM, by offset (notes/assumptions/1.md). -/
opaque Config.initCram (offset : Nat) : Byte

/-- The value at construction of the I/O cell at `0xFF00 + a`, where R59 gives a draw or a collaborator's
state (notes/assumptions/4.md). -/
opaque Config.initIo (a : Byte) : Byte

/-- `BOOT_IMAGE`: the 256-byte boot image, which no source gives (R10; notes/assumptions/7.md). -/
opaque Config.bootImage (offset : Byte) : Byte

/-- `IF_CLEAR_POLICY` (R10; 60_exceptions.md R421). -/
inductive ClearPolicy where
  | retain
  | clearUnenabledWhenMasked
  | clearAllEveryCall
  deriving DecidableEq, Repr

/-- The parameters a run is started with (R10). They stand in the state so that a statement can range over
them; no step changes them (notes/assumptions/6.md). -/
structure Params where
  /-- `IF_CLEAR_POLICY`. -/
  ifClearPolicy : ClearPolicy
  /-- `DIV_TICKS_WHEN_HALTED`. -/
  divTicksWhenHalted : Bool
  /-- `IO_STUB_READ`. -/
  ioStubRead : Byte
  /-- `FRAME_CYCLES`. -/
  frameCycles : Nat
  deriving DecidableEq, Repr

end Sys2Proof
end

