-- ==== Sys2Proof/Machine/Defaults.lean ====
section
/-! DEFINITION. The spec's default values of the parameters of 00_scope.md R10 (10_state.md R58, R59). -/

namespace Sys2Proof.Machine

/-- The values `power_up` sets: `POST_BOOT_REGS` and `POST_BOOT_IO` (00_scope.md R10; 10_state.md R58, R59). -/
structure PostBoot where
  a : Byte
  /-- F as a byte. -/
  f : Byte
  b : Byte
  c : Byte
  d : Byte
  e : Byte
  h : Byte
  l : Byte
  sp : Word
  pc : Word
  /-- IF bits 4..0. -/
  intFlag : BitVec 5
  /-- IE bits 4..0. -/
  intEnable : BitVec 5
  div : Byte
  tima : Byte
  tma : Byte
  tac : BitVec 3
  p1Select : BitVec 2
  sb : Byte
  sc : Byte
  lcdc : Byte
  statCpu : BitVec 4
  scy : Byte
  scx : Byte
  bgp : Byte
  deriving DecidableEq, Repr

/-- The default values of R58 and R59 (notes/assumptions/5.md). -/
def defaultPostBoot : PostBoot :=
  { a := 0x01#8
    f := 0xB0#8
    b := 0x00#8
    c := 0x13#8
    d := 0x00#8
    e := 0xD8#8
    h := 0x01#8
    l := 0x4D#8
    sp := 0xFFFE#16
    pc := 0x0100#16
    intFlag := 0b00001#5
    intEnable := 0b00000#5
    div := 0xAB#8
    tima := 0x00#8
    tma := 0x00#8
    tac := 0b000#3
    p1Select := 0b00#2
    sb := 0x00#8
    sc := 0x7E#8
    lcdc := 0x91#8
    statCpu := 0b0000#4
    scy := 0x00#8
    scx := 0x00#8
    bgp := 0xFC#8 }

/-- The defaults of R10: Retain, false, 0x00, 69905. -/
def defaultParams : Params :=
  { ifClearPolicy := .retain, divTicksWhenHalted := false, ioStubRead := 0x00#8, frameCycles := 69905 }

end Sys2Proof.Machine
end

