-- ==== Sys2Proof/Machine/State.lean ====
section
/-! DEFINITION. The state of the core (10_state.md), the reasons a step can stop (60_exceptions.md section 1), and the state after reset. -/

namespace Sys2Proof.Machine

/-- Sparse bytes: addresses strictly rising (`Memory.wf`). What an address that is not listed holds is said
where each memory is read (Machine/Memory.lean). -/
abbrev Memory := List Host.Cell

/-- The flag register F (10_state.md R42): four flags in bits 7..4; bits 3..0 hold nothing. -/
structure Flags where
  /-- Z, bit 7. -/
  z : Bool
  /-- N, bit 6. -/
  n : Bool
  /-- Hf, bit 5. -/
  h : Bool
  /-- Cf, bit 4. -/
  c : Bool
  deriving DecidableEq, Repr

/-- The seven 8-bit general registers (R40). -/
structure Regs where
  a : Byte
  b : Byte
  c : Byte
  d : Byte
  e : Byte
  h : Byte
  l : Byte
  deriving DecidableEq, Repr

/-- `ime_pending` (R53): none, (enable, 2), (enable, 1), (disable, 2) or (disable, 1). -/
inductive ImePending where
  | none
  | enable2
  | enable1
  | disable2
  | disable1
  deriving DecidableEq, Repr

/-- The TimerUnit (R55). -/
structure Timer where
  /-- DIV, at 0xFF04. -/
  div : Byte
  /-- The divider's cycle accumulator. -/
  divAcc : Nat
  /-- TIMA, at 0xFF05. -/
  tima : Byte
  /-- TMA, at 0xFF06. -/
  tma : Byte
  /-- TAC, at 0xFF07: bit 2 enable, bits 1..0 the rate selector. -/
  tac : BitVec 3
  /-- The counter's cycle accumulator. -/
  timaAcc : Nat
  deriving DecidableEq, Repr

/-- The I/O cells shared with collaborators (R61). -/
structure Io where
  /-- P1 bits 5..4, written by the CPU. -/
  p1Select : BitVec 2
  /-- P1 bits 3..0, written by the input collaborator. -/
  p1Input : BitVec 4
  sb : Byte
  sc : Byte
  lcdc : Byte
  /-- STAT bits 6..3, written by the CPU. -/
  statCpu : BitVec 4
  /-- STAT bits 2..0, written by the pixel processor. -/
  statPpu : BitVec 3
  scy : Byte
  scx : Byte
  ly : Byte
  bgp : Byte
  obp0 : Byte
  obp1 : Byte
  deriving DecidableEq, Repr

/-- The two StorageController variants (00_scope.md R3; 20_memory.md R150). -/
inductive Variant where
  | noBanking
  | switchableBanking
  deriving DecidableEq, Repr

/-- The StorageController (R60). -/
structure Cart where
  variant : Variant
  /-- The cartridge image by offset, below `romLen`; an offset not listed holds 0x00. Immutable. -/
  rom : Memory
  /-- `len(rom)`. -/
  romLen : Nat
  /-- Banked RAM by offset `bank * 0x2000 + (a - 0xA000)`. -/
  cram : Memory
  ramEnable : Bool
  romLow : BitVec 5
  romHigh : BitVec 2
  ramBank : BitVec 2
  /-- false: ROM mode (0). true: RAM mode (1). -/
  mode : Bool
  deriving DecidableEq, Repr

/-- Whether a faulting access was a read (a fetch too) or a write (60_exceptions.md R401). -/
inductive Access where
  | read
  | write
  deriving DecidableEq, Repr

/-- The fault records of 60_exceptions.md R400-R402. -/
inductive FaultRecord where
  /-- R400: the opcode, and the pc after the opcode byte. -/
  | unimplementedOpcode (opcode : Byte) (pc : Word)
  /-- R401: the address, the access, and the pc as it stood when the access was attempted. -/
  | unimplementedAddress (addr : Word) (access : Access) (pc : Word)
  /-- R402: the pc after the `HALT` opcode. -/
  | unmodelledHaltBug (pc : Word)
  deriving DecidableEq, Repr

/-- The core's state: everything 10_state.md gives it. -/
structure State where
  regs : Regs
  /-- F (R42). -/
  f : Flags
  /-- SP (R44). -/
  sp : Word
  /-- PC (R45). -/
  pc : Word
  /-- IME (R50). -/
  ime : Bool
  /-- The pending IME change (R53). -/
  imePending : ImePending
  /-- IF (R51): bit k is source k. -/
  intFlag : BitVec 5
  /-- IE (R52). -/
  intEnable : BitVec 5
  /-- R54. -/
  halted : Bool
  /-- R54. -/
  stopped : Bool
  timer : Timer
  /-- R56: false (0) while the boot overlay is active. -/
  bootLatch : Bool
  /-- VRAM, WRAM, OAM and HRAM (R57), each byte under its CPU address; an echo address is WRAM's (20_memory.md R107). -/
  ram : Memory
  cart : Cart
  io : Io
  /-- R62. -/
  fault : Option FaultRecord
  /-- The scheduler's frame total (R63; 60_exceptions.md R451). -/
  frameTotal : Nat
  /-- The parameters of the run (00_scope.md R10); the model's carrier, not state of the spec (R64). -/
  params : Params
  /-- The model's own: how many draws the run has made (notes/assumptions/2.md). -/
  draws : Nat
  /-- The model's own: the count `execute_one` returned last (30_encoding.md R194; notes/assumptions/13.md). -/
  cycles : Nat
  deriving DecidableEq, Repr

/-- The fault that stops the core, with the state at the fault (60_exceptions.md R405): every effect before
the faulting access has taken place and `fault` is set. The three kinds are the spec's own. -/
inductive Fault where
  /-- Raised by the eleven illegal opcodes (R400; 45_system.md R386). Safe: the spec makes them fatal. -/
  | unimplementedOpcode (opcode : Byte) (pc : Word) (faulted : State)
  /-- Raised by any access to 0xFEA0-0xFEFF (R401; 20_memory.md R101). Safe: the spec makes it fatal. -/
  | unimplementedAddress (addr : Word) (access : Access) (pc : Word) (faulted : State)
  /-- Raised by `HALT` with IME clear and an enabled request pending (R402; 45_system.md R381). Safe: the spec refuses the case. -/
  | unmodelledHaltBug (pc : Word) (faulted : State)
  deriving DecidableEq, Repr

/-- Why a step has no meaning. -/
inductive Refusal where
  /-- Raised by an arm of `exec` whose instruction has no meaning yet; no arm is left so. Safe: nothing is claimed of it. -/
  | notModelled (mnemonic : String)
  deriving DecidableEq, Repr

/-- The cartridge `load` builds around an image: the register values of R59 (20_memory.md R150). -/
def Cart.ofImage (variant : Variant) (rom : Memory) (romLen : Nat) : Cart :=
  { variant := variant
    rom := rom
    romLen := romLen
    cram := []
    ramEnable := false
    romLow := 1#5
    romHigh := 0#2
    ramBank := 0#2
    mode := false }

/-- Construction (70_reset_and_hazards.md R480): the "construction" column of R58 and R59. A cell the
column calls a draw holds `Config.initIo`. -/
def State.constructed (cart : Cart) (params : Params) : State :=
  { regs := { a := 0#8, b := 0#8, c := 0#8, d := 0#8, e := 0#8, h := 0#8, l := 0#8 }
    f := { z := false, n := false, h := false, c := false }
    sp := 0#16
    pc := 0#16
    ime := false
    imePending := .none
    intFlag := 0#5
    intEnable := 0#5
    halted := false
    stopped := false
    timer := { div := 0#8, divAcc := 0, tima := 0#8, tma := 0#8, tac := 0#3, timaAcc := 0 }
    bootLatch := false
    ram := []
    cart := cart
    io :=
      { p1Select := 0#2
        p1Input := (Config.initIo 0x00#8).extractLsb' 0 4
        sb := Config.initIo 0x01#8
        sc := Config.initIo 0x02#8
        lcdc := Config.initIo 0x40#8
        statCpu := (Config.initIo 0x41#8).extractLsb' 3 4
        statPpu := (Config.initIo 0x41#8).extractLsb' 0 3
        scy := Config.initIo 0x42#8
        scx := Config.initIo 0x43#8
        ly := Config.initIo 0x44#8
        bgp := Config.initIo 0x47#8
        obp0 := Config.initIo 0x48#8
        obp1 := Config.initIo 0x49#8 }
    fault := none
    frameTotal := 0
    params := params
    draws := 0
    cycles := 0 }

/-- `power_up()` (70_reset_and_hazards.md R481): the registers and I/O cells take the post-boot values, the
boot overlay is disabled, the memories and the StorageController are unchanged. -/
def powerUp (v : PostBoot) (s : State) : State :=
  { s with
    regs := { a := v.a, b := v.b, c := v.c, d := v.d, e := v.e, h := v.h, l := v.l }
    f := { z := v.f.getLsbD 7, n := v.f.getLsbD 6, h := v.f.getLsbD 5, c := v.f.getLsbD 4 }
    sp := v.sp
    pc := v.pc
    ime := false
    imePending := .none
    intFlag := v.intFlag
    intEnable := v.intEnable
    halted := false
    stopped := false
    timer := { div := v.div, divAcc := 0, tima := v.tima, tma := v.tma, tac := v.tac, timaAcc := 0 }
    bootLatch := true
    io :=
      { s.io with
        p1Select := v.p1Select
        sb := v.sb
        sc := v.sc
        lcdc := v.lcdc
        statCpu := v.statCpu
        scy := v.scy
        scx := v.scx
        bgp := v.bgp }
    fault := none
    frameTotal := 0 }

/-- The cartridge of the reset state: an image of 32 KiB in which no byte is listed, so every byte is 0x00 and
the type byte selects NoBanking (95_test_vectors.md 1.9; notes/assumptions/3.md). It is what the loader builds from
that image (`load_resetImage`), written out. -/
def Cart.atReset : Cart := Cart.ofImage .noBanking [] 0x8000

/-- The machine right after reset: loaded, constructed, then powered up (R482), with the default parameters. It is
what `startSession` gives (Machine/Session.lean). -/
def State.reset : State := powerUp defaultPostBoot (State.constructed Cart.atReset defaultParams)

end Sys2Proof.Machine
end

