-- ==== Sys2Proof/Machine/Memory.lean ====
section
/-! DEFINITION. Sparse memory: one canonical form, one read, one write. What an unlisted address holds is said here, once for each memory. -/

namespace Sys2Proof.Machine

/-- The byte listed at an address, if one is. -/
def memGet (k : Nat) : Memory → Option Byte
  | [] => none
  | (k', v) :: m => if k = k' then some v else memGet k m

/-- List a byte at an address, in address order, in place of any byte listed there. -/
def memSet (k : Nat) (v : Byte) : Memory → Memory
  | [] => [(k, v)]
  | (k', v') :: m =>
    if k < k' then (k, v) :: (k', v') :: m else if k = k' then (k, v) :: m else (k', v') :: memSet k v m

/-- Unlist an address. -/
def memErase (k : Nat) : Memory → Memory
  | [] => []
  | (k', v') :: m => if k = k' then m else (k', v') :: memErase k m

/-- The canonical form: addresses strictly rising. In a RAM an unlisted address holds no written byte, so no
entry can equal it (notes/assumptions/1.md). -/
def Memory.wf : Memory → Bool
  | [] => true
  | (k, _) :: m => m.all (fun cell => decide (k < cell.1)) && Memory.wf m

/-- The canonical form of a cartridge image: rising addresses below its length, and no entry equal to the 0x00
an unlisted offset holds. -/
def Memory.wfRom (m : Memory) (len : Nat) : Bool :=
  Memory.wf m && m.all (fun cell => decide (cell.1 < len) && decide (cell.2 ≠ 0#8))

/-- The byte at a RAM address: a byte nothing has written is `INIT_MEM`'s (10_state.md R59). -/
def ramGet (k : Nat) (m : Memory) : Byte := (memGet k m).getD (Config.initMem k)

/-- The byte at a cartridge-RAM offset: a byte nothing has written is `INIT_MEM`'s (R59). -/
def cramGet (k : Nat) (m : Memory) : Byte := (memGet k m).getD (Config.initCram k)

/-- The byte of the cartridge image at an offset below its length. -/
def romGet (k : Nat) (m : Memory) : Byte := (memGet k m).getD 0#8

/-- Put a byte into a cartridge image, keeping its canonical form. -/
def romSet (k : Nat) (v : Byte) (m : Memory) : Memory := if v = 0#8 then memErase k m else memSet k v m

end Sys2Proof.Machine
end

