-- ==== Sys2Proof/Machine/Cartridge.lean ====
section
/-! DEFINITION. The StorageController and the cartridge loader (20_memory.md section 3). -/

namespace Sys2Proof.Machine

/-- The load-time errors (20_memory.md R150; 60_exceptions.md R404): the core never starts. -/
inductive LoadError where
  | truncatedCartridgeImage (len : Nat)
  | unsupportedCartridgeType (t : Byte)
  | oversizedCartridgeImage (len : Nat)
  deriving DecidableEq, Repr

/-- `CART_TYPE_MAP`, a finite map from type bytes to variants. -/
abbrev CartTypeMap := List (Byte × Variant)

/-- The default of R10: type 0x00 is NoBanking, type 0x01 is SwitchableBanking. -/
def defaultTypeMap : CartTypeMap := [(0x00#8, .noBanking), (0x01#8, .switchableBanking)]

/-- The variant a type byte selects, if the map holds it. -/
def typeLookup (t : Byte) : CartTypeMap → Option Variant
  | [] => none
  | (t', v) :: m => if t = t' then some v else typeLookup t m

/-- The canonical sparse form of an image's bytes, the first of them at offset `k`. -/
def imageCells (k : Nat) : List Byte → Memory
  | [] => []
  | v :: img => if v = 0#8 then imageCells (k + 1) img else (k, v) :: imageCells (k + 1) img

/-- The largest image a variant takes (R9, R60). -/
def romLimit : Variant → Nat
  | .noBanking => 32768
  | .switchableBanking => 131072

/-- `load(img)` (R150): the checks in the order size, type, capacity. -/
def load (types : CartTypeMap) (img : List Byte) : Except LoadError Cart :=
  if img.length < 0x148 then .error (.truncatedCartridgeImage img.length)
  else
    let t := img.getD 0x147 0#8
    match typeLookup t types with
    | none => .error (.unsupportedCartridgeType t)
    | some variant =>
      if romLimit variant < img.length then .error (.oversizedCartridgeImage img.length)
      else .ok (Cart.ofImage variant (imageCells 0 img) img.length)

/-- The ROM bank of the switchable window (R166). -/
def romBank (c : Cart) : Nat := c.romHigh.toNat * 32 + c.romLow.toNat

/-- The image offset an address of 0x4000-0x7FFF shows (R166). -/
def bankedOffset (n : Nat) (c : Cart) : Nat := romBank c * 0x4000 + (n - 0x4000)

/-- The cartridge-RAM offset an address of 0xA000-0xBFFF shows (R164, R167). -/
def cramOffset (n : Nat) (c : Cart) : Nat := c.ramBank.toNat * 0x2000 + (n - 0xA000)

/-- `cart_read(n)` for `n` in 0x0000-0x7FFF or 0xA000-0xBFFF, with `d` the draw (R151, R153, R165-R167). -/
def cartRead (d : Byte) (n : Nat) (c : Cart) : Byte :=
  match c.variant with
  | .noBanking => if n ≤ 0x7FFF then (if n < c.romLen then romGet n c.rom else 0x00#8) else d
  | .switchableBanking =>
    if n ≤ 0x3FFF then (if n < c.romLen then romGet n c.rom else d)
    else if n ≤ 0x7FFF then (if bankedOffset n c < c.romLen then romGet (bankedOffset n c) c.rom else d)
    else if c.ramEnable then cramGet (cramOffset n c) c.cram
    else d

/-- `cart_write(n, v)` (R152, R153, R160-R164). -/
def cartWrite (n : Nat) (v : Byte) (c : Cart) : Cart :=
  match c.variant with
  | .noBanking => c
  | .switchableBanking =>
    if n ≤ 0x1FFF then { c with ramEnable := decide (v &&& 0x0F#8 = 0x0A#8) }
    else if n ≤ 0x3FFF then
      { c with romLow := if v.extractLsb' 0 5 = 0#5 then 1#5 else v.extractLsb' 0 5 }
    else if n ≤ 0x5FFF then
      if c.mode then { c with ramBank := v.extractLsb' 0 2 } else { c with romHigh := v.extractLsb' 0 2 }
    else if n ≤ 0x7FFF then
      if v.getLsbD 0 then { c with mode := true } else { c with mode := false, ramBank := 0#2 }
    else if c.ramEnable then { c with cram := memSet (cramOffset n c) v c.cram }
    else c

end Sys2Proof.Machine
end

