-- ==== Sys2Proof/Machine/Ops.lean ====
section
/-! DEFINITION. The shared operations over registers and memory: the address router (20_memory.md), the I/O registers, the stack (40_loads.md R222, R223), interrupt dispatch (60_exceptions.md R425) and the return from it (44_control.md R360). -/

namespace Sys2Proof.Machine

/-- What an operation of the core answers. -/
abbrev Out (α : Type) := Host.Outcome α Fault Refusal

/-- Do `k` with the answer of `r`, unless `r` stopped (R17, R18). -/
def andThen {α β : Type} (r : Out α) (k : α → Out β) : Out β :=
  match r with
  | .next x => k x
  | .fault e => .fault e
  | .refused e => .refused e

/-- The fault that hands a record and a state to the host. -/
def faultOf (r : FaultRecord) (s : State) : Fault :=
  match r with
  | .unimplementedOpcode op pc => .unimplementedOpcode op pc s
  | .unimplementedAddress a access pc => .unimplementedAddress a access pc s
  | .unmodelledHaltBug pc => .unmodelledHaltBug pc s

/-- `raise` (R17): the core stops, with `fault` set (60_exceptions.md R405). -/
def raise {α : Type} (r : FaultRecord) (s : State) : Out α := .fault (faultOf r { s with fault := some r })

/-- The answer of an instruction that completes, with the count `execute_one` returns (30_encoding.md R194). -/
def done (n : Nat) (s : State) : Out State := .next { s with cycles := n }

/-! ### Registers -/

/-- `x[r]` (R14). -/
def Regs.get (r : Reg8) (x : Regs) : Byte :=
  match r with
  | .a => x.a
  | .b => x.b
  | .c => x.c
  | .d => x.d
  | .e => x.e
  | .h => x.h
  | .l => x.l

/-- `x[r] <- v` (R14). -/
def Regs.set (r : Reg8) (v : Byte) (x : Regs) : Regs :=
  match r with
  | .a => { x with a := v }
  | .b => { x with b := v }
  | .c => { x with c := v }
  | .d => { x with d := v }
  | .e => { x with e := v }
  | .h => { x with h := v }
  | .l => { x with l := v }

/-- Read an 8-bit register. -/
def State.reg (r : Reg8) (s : State) : Byte := s.regs.get r

/-- Write an 8-bit register. -/
def State.setReg (r : Reg8) (v : Byte) (s : State) : State := { s with regs := s.regs.set r v }

/-- `x[BC]` (10_state.md R41). -/
def State.bc (s : State) : Word := wordOf s.regs.b s.regs.c

/-- `x[DE]` (R41). -/
def State.de (s : State) : Word := wordOf s.regs.d s.regs.e

/-- `x[HL]` (R41). -/
def State.hl (s : State) : Word := wordOf s.regs.h s.regs.l

/-- Read a pair of `rp`, SP among them (30_encoding.md R184). -/
def State.pair (p : Rp) (s : State) : Word :=
  match p with
  | .bc => s.bc
  | .de => s.de
  | .hl => s.hl
  | .sp => s.sp

/-- Write a pair of `rp`: both halves at once (R14, R41). -/
def State.setPair (p : Rp) (v : Word) (s : State) : State :=
  match p with
  | .bc => { s with regs := { s.regs with b := hiByte v, c := loByte v } }
  | .de => { s with regs := { s.regs with d := hiByte v, e := loByte v } }
  | .hl => { s with regs := { s.regs with h := hiByte v, l := loByte v } }
  | .sp => { s with sp := v }

/-- F read as a byte: `Z<<7 | N<<6 | Hf<<5 | Cf<<4`, bits 3..0 zero (R42). -/
def Flags.toByte (f : Flags) : Byte :=
  BitVec.ofNat 8 (bitNat f.z * 128 + bitNat f.n * 64 + bitNat f.h * 32 + bitNat f.c * 16)

/-- A byte written to F: bits 7..4 are kept, bits 3..0 discarded (R42). -/
def Flags.ofByte (v : Byte) : Flags :=
  { z := v.getLsbD 7, n := v.getLsbD 6, h := v.getLsbD 5, c := v.getLsbD 4 }

/-- Read a pair of `rp2`, AF among them (R41; 40_loads.md R224, R225). -/
def State.pair2 (p : Rp2) (s : State) : Word :=
  match p with
  | .bc => s.bc
  | .de => s.de
  | .hl => s.hl
  | .af => wordOf s.regs.a s.f.toByte

/-- Write a pair of `rp2` (R41; 40_loads.md R226, R227). -/
def State.setPair2 (p : Rp2) (v : Word) (s : State) : State :=
  match p with
  | .bc => s.setPair .bc v
  | .de => s.setPair .de v
  | .hl => s.setPair .hl v
  | .af => { s with regs := { s.regs with a := hiByte v }, f := Flags.ofByte (loByte v) }

/-! ### Memory-mapped I/O (20_memory.md section 2) -/

/-- The semantic registers of the I/O band (R120); every other address is unknown (R131). -/
inductive IoReg where
  | p1 | sb | sc | div | tima | tma | tac | intFlag | lcdc | stat | scy | scx | ly | bgp | obp0 | obp1 | bootOff
  | unknown
  deriving DecidableEq, Repr

/-- "A finite mapping from address to semantic register" (R120). -/
def ioReg (n : Nat) : IoReg :=
  if n = 0xFF00 then .p1
  else if n = 0xFF01 then .sb
  else if n = 0xFF02 then .sc
  else if n = 0xFF04 then .div
  else if n = 0xFF05 then .tima
  else if n = 0xFF06 then .tma
  else if n = 0xFF07 then .tac
  else if n = 0xFF0F then .intFlag
  else if n = 0xFF40 then .lcdc
  else if n = 0xFF41 then .stat
  else if n = 0xFF42 then .scy
  else if n = 0xFF43 then .scx
  else if n = 0xFF44 then .ly
  else if n = 0xFF47 then .bgp
  else if n = 0xFF48 then .obp0
  else if n = 0xFF49 then .obp1
  else if n = 0xFF50 then .bootOff
  else .unknown

/-- `io_read` (R120-R131), with `d` the draw that fills the bits no register holds. -/
def ioRead (d : Byte) (r : IoReg) (s : State) : Byte :=
  match r with
  | .p1 => (d &&& 0xC0#8) ||| (s.io.p1Select.setWidth 8 <<< 4) ||| s.io.p1Input.setWidth 8
  | .sb => s.io.sb
  | .sc => s.io.sc
  | .div => s.timer.div
  | .tima => s.timer.tima
  | .tma => s.timer.tma
  | .tac => (d &&& 0xF8#8) ||| s.timer.tac.setWidth 8
  | .intFlag => (d &&& 0xE0#8) ||| s.intFlag.setWidth 8
  | .lcdc => s.io.lcdc
  | .stat => (d &&& 0x80#8) ||| (s.io.statCpu.setWidth 8 <<< 3) ||| s.io.statPpu.setWidth 8
  | .scy => s.io.scy
  | .scx => s.io.scx
  | .ly => s.io.ly
  | .bgp => s.io.bgp
  | .obp0 => s.io.obp0
  | .obp1 => s.io.obp1
  | .bootOff => d
  | .unknown => s.params.ioStubRead

/-- `io_write` (R120-R131). -/
def ioWrite (v : Byte) (r : IoReg) (s : State) : State :=
  match r with
  | .p1 => { s with io := { s.io with p1Select := v.extractLsb' 4 2 } }
  | .sb => { s with io := { s.io with sb := v } }
  | .sc => { s with io := { s.io with sc := v } }
  | .div => { s with timer := { s.timer with div := 0#8, divAcc := 0 } }
  | .tima => { s with timer := { s.timer with tima := v } }
  | .tma => { s with timer := { s.timer with tma := v } }
  | .tac => { s with timer := { s.timer with tac := v.extractLsb' 0 3 } }
  | .intFlag => { s with intFlag := v.extractLsb' 0 5 }
  | .lcdc => { s with io := { s.io with lcdc := v } }
  | .stat => { s with io := { s.io with statCpu := v.extractLsb' 3 4 } }
  | .scy => { s with io := { s.io with scy := v } }
  | .scx => { s with io := { s.io with scx := v } }
  | .ly => s
  | .bgp => { s with io := { s.io with bgp := v } }
  | .obp0 => { s with io := { s.io with obp0 := v } }
  | .obp1 => { s with io := { s.io with obp1 := v } }
  | .bootOff => { s with bootLatch := true }
  | .unknown => s

/-! ### The address router (20_memory.md section 1) -/

/-- The byte `read_byte(a)` returns when the draw is `d`, and `none` where no band is (R101, R104).
It changes nothing (R132). -/
def peek (d : Byte) (a : Word) (s : State) : Option Byte :=
  let n := a.toNat
  if n ≤ 0x00FF ∧ s.bootLatch = false then some (Config.bootImage (loByte a))
  else if n ≤ 0x7FFF then some (cartRead d n s.cart)
  else if n ≤ 0x9FFF then some (ramGet n s.ram)
  else if n ≤ 0xBFFF then some (cartRead d n s.cart)
  else if n ≤ 0xDFFF then some (ramGet n s.ram)
  else if n ≤ 0xFDFF then some (ramGet (n - 0x2000) s.ram)
  else if n ≤ 0xFE9F then some (ramGet n s.ram)
  else if n ≤ 0xFEFF then none
  else if n ≤ 0xFF7F then some (ioRead d (ioReg n) s)
  else if n ≤ 0xFFFE then some (ramGet n s.ram)
  else some ((d &&& 0xE0#8) ||| s.intEnable.setWidth 8)

/-- `MemRead(a, 1)` (00_scope.md R15; 20_memory.md R104). Each read takes the next draw (notes/assumptions/2.md). -/
def readByte (a : Word) (s : State) : Out (Byte × State) :=
  match peek (Config.freeByte s.draws) a s with
  | some v => .next (v, { s with draws := s.draws + 1 })
  | none => raise (.unimplementedAddress a .read s.pc) s

/-- `MemWrite(a, 1, v)` (R15; 20_memory.md R105). The boot overlay does not apply to writes. -/
def writeByte (a : Word) (v : Byte) (s : State) : Out State :=
  let n := a.toNat
  if n ≤ 0x7FFF then .next { s with cart := cartWrite n v s.cart }
  else if n ≤ 0x9FFF then .next { s with ram := memSet n v s.ram }
  else if n ≤ 0xBFFF then .next { s with cart := cartWrite n v s.cart }
  else if n ≤ 0xDFFF then .next { s with ram := memSet n v s.ram }
  else if n ≤ 0xFDFF then .next { s with ram := memSet (n - 0x2000) v s.ram }
  else if n ≤ 0xFE9F then .next { s with ram := memSet n v s.ram }
  else if n ≤ 0xFEFF then raise (.unimplementedAddress a .write s.pc) s
  else if n ≤ 0xFF7F then .next (ioWrite v (ioReg n) s)
  else if n ≤ 0xFFFE then .next { s with ram := memSet n v s.ram }
  else .next { s with intEnable := v.extractLsb' 0 5 }

/-- `MemWrite(a, 2, v)` (R15): the low byte at `a`, then the high byte at `a + 1`. -/
def writeWord (a v : Word) (s : State) : Out State :=
  andThen (writeByte a (loByte v) s) (writeByte (a + 1#16) (hiByte v))

/-! ### The stack (40_loads.md section 4) -/

/-- One half of a push: decrement SP, write a byte there (R222). -/
def pushByte (v : Byte) (s : State) : Out State := writeByte (s.sp - 1#16) v { s with sp := s.sp - 1#16 }

/-- `Push16(v)` (R222): the high byte first. -/
def push16 (v : Word) (s : State) : Out State := andThen (pushByte (hiByte v) s) (pushByte (loByte v))

/-- One half of a pop: read the byte at SP, increment SP (R223). -/
def popByte (s : State) : Out (Byte × State) :=
  andThen (readByte s.sp s) fun r => .next (r.1, { r.2 with sp := r.2.sp + 1#16 })

/-- `Pop16()` (R223): the low byte first. -/
def pop16 (s : State) : Out (Word × State) :=
  andThen (popByte s) fun lo => andThen (popByte lo.2) fun hi => .next (wordOf hi.1 lo.1, hi.2)

/-! ### Taking an interrupt and returning from it -/

/-- The five interrupt sources, in priority order (60_exceptions.md R410). -/
inductive Irq where
  | verticalBlank | displayStatus | timerOverflow | serial | inputEdge
  deriving DecidableEq, Repr

/-- The request and enable bit of a source (R410). -/
def Irq.bit : Irq → Nat
  | .verticalBlank => 0
  | .displayStatus => 1
  | .timerOverflow => 2
  | .serial => 3
  | .inputEdge => 4

/-- The vector of a source (R410): `0x0040 + 8 * k`. -/
def Irq.vector (k : Irq) : Word := BitVec.ofNat 16 (0x0040 + 8 * k.bit)

/-- A source's mask in IF and IE. -/
def Irq.mask (k : Irq) : BitVec 5 := 1#5 <<< k.bit

/-- `dispatch(k)` (R425): the request and IME are cleared, PC is pushed, PC becomes the vector. -/
def dispatchIrq (k : Irq) (s : State) : Out State :=
  andThen
    (push16 s.pc
      { s with intFlag := s.intFlag &&& ~~~k.mask, ime := false, imePending := .none, halted := false })
    fun t => .next { t with pc := k.vector }

/-- `PC <- Pop16(); IME <- 1; ime_pending <- none` (44_control.md R360; 60_exceptions.md R427). -/
def returnFromIrq (s : State) : Out State :=
  andThen (pop16 s) fun r => .next { r.2 with pc := r.1, ime := true, imePending := .none }

end Sys2Proof.Machine
end

