-- ==== Sys2Proof/Machine/Collaborators.lean ====
section
/-! DEFINITION. The collaborators' steps as free inputs, limited to the writes 60_exceptions.md R460 and R462 allow (notes/assumptions/8.md). -/

namespace Sys2Proof.Machine

/-- Request the sources of a mask. -/
def requestIrqs (mask : BitVec 5) (s : State) : State := { s with intFlag := s.intFlag ||| mask }

/-- `pixel_tick` (R460): LY and STAT bits 2..0 take any value, and IF bits 0 and 1 may be set. -/
def pixelTick (s : State) : State :=
  let ly := Config.freeByte s.draws
  let d := Config.freeByte (s.draws + 1)
  requestIrqs ((d.extractLsb' 3 5) &&& 0b00011#5)
    { s with io := { s.io with ly := ly, statPpu := d.extractLsb' 0 3 }, draws := s.draws + 2 }

/-- The input collaborator's step (R462): P1 bits 3..0 take any value, and where they changed IF bit 4 may be set. -/
def inputTick (s : State) : State :=
  let d := Config.freeByte s.draws
  let p1 := d.extractLsb' 0 4
  requestIrqs (if p1 ≠ s.io.p1Input ∧ d.getLsbD 4 then Irq.inputEdge.mask else 0#5)
    { s with io := { s.io with p1Input := p1 }, draws := s.draws + 1 }

end Sys2Proof.Machine
end

