-- ==== Sys2Proof/Machine/Flags.lean ====
section
/-! DEFINITION. Every flag computation of the spec, with the value it goes with: exact integers, then the value mod 2^N (41_alu8.md R249). -/

namespace Sys2Proof.Machine

/-- An 8-bit result and the flags that go with it. -/
structure Alu8 where
  val : Byte
  f : Flags
  deriving DecidableEq, Repr

/-- A 16-bit result and the flags that go with it. -/
structure Alu16 where
  val : Word
  f : Flags
  deriving DecidableEq, Repr

/-- The low nibble as a number. -/
def nib (v : Byte) : Nat := v.toNat % 16

/-- `cond(cc)` (30_encoding.md R185). -/
def condHolds (cc : Cond) (f : Flags) : Bool :=
  match cc with
  | .nz => !f.z
  | .z => f.z
  | .nc => !f.c
  | .c => f.c

/-- `ADD` with `c = 0` and `ADC` with `c = Cf` (R251, R252). -/
def aluAdd (a v : Byte) (c : Bool) : Alu8 :=
  let t := a.toNat + v.toNat + bitNat c
  { val := BitVec.ofNat 8 t
    f := { z := decide (t % 256 = 0), n := false, h := decide (nib a + nib v + bitNat c > 0x0F), c := decide (t > 0xFF) } }

/-- `SUB` with `c = 0` and `SBC` with `c = Cf` (R253, R254). -/
def aluSub (a v : Byte) (c : Bool) : Alu8 :=
  let res := a - v - BitVec.ofNat 8 (bitNat c)
  { val := res
    f :=
      { z := decide (res = 0#8)
        n := true
        h := decide (nib a < nib v + bitNat c)
        c := decide (a.toNat < v.toNat + bitNat c) } }

/-- `AND` (R255): Hf is 1. -/
def aluAnd (a v : Byte) : Alu8 :=
  { val := a &&& v, f := { z := decide (a &&& v = 0#8), n := false, h := true, c := false } }

/-- `XOR` (R256). -/
def aluXor (a v : Byte) : Alu8 :=
  { val := a ^^^ v, f := { z := decide (a ^^^ v = 0#8), n := false, h := false, c := false } }

/-- `OR` (R257). -/
def aluOr (a v : Byte) : Alu8 :=
  { val := a ||| v, f := { z := decide (a ||| v = 0#8), n := false, h := false, c := false } }

/-- `CP` (R258): the flags of `SUB`, and A as it was. -/
def aluCp (a v : Byte) : Alu8 := { val := a, f := (aluSub a v false).f }

/-- The eight operations of R186 on A and the source operand: A's new value and the flags (R251-R258). -/
def alu (op : AluOp) (a v : Byte) (f : Flags) : Alu8 :=
  match op with
  | .add => aluAdd a v false
  | .adc => aluAdd a v f.c
  | .sub => aluSub a v false
  | .sbc => aluSub a v f.c
  | .and => aluAnd a v
  | .xor => aluXor a v
  | .or => aluOr a v
  | .cp => aluCp a v

/-- 8-bit increment (R259): Cf unchanged. -/
def inc8 (o : Byte) (f : Flags) : Alu8 :=
  { val := o + 1#8, f := { z := decide (o + 1#8 = 0#8), n := false, h := decide (nib o = 0x0F), c := f.c } }

/-- 8-bit decrement (R261): Cf unchanged. -/
def dec8 (o : Byte) (f : Flags) : Alu8 :=
  { val := o - 1#8, f := { z := decide (o - 1#8 = 0#8), n := true, h := decide (nib o = 0x00), c := f.c } }

/-- Decimal adjust after an addition (R263): the 0x60 step, then the 0x06 step on its result. -/
def daaAdd (a : Byte) (f : Flags) : Byte × Bool :=
  let big := f.c || decide (a.toNat > 0x99)
  let a1 := if big then a + 0x60#8 else a
  let a2 := if f.h || decide (nib a1 > 0x09) then a1 + 0x06#8 else a1
  (a2, big)

/-- Decimal adjust after a subtraction (R263): Cf unchanged. -/
def daaSub (a : Byte) (f : Flags) : Byte × Bool :=
  let a1 := if f.c then a - 0x60#8 else a
  let a2 := if f.h then a1 - 0x06#8 else a1
  (a2, f.c)

/-- `DAA` (R263): N unchanged. -/
def daa8 (a : Byte) (f : Flags) : Alu8 :=
  let r := if f.n then daaSub a f else daaAdd a f
  { val := r.1, f := { z := decide (r.1 = 0#8), n := f.n, h := false, c := r.2 } }

/-- `ADD HL,rr` (42_alu16.md R292): half-carry from bit 11, carry from bit 15, Z unchanged. -/
def add16 (h v : Word) (f : Flags) : Alu16 :=
  { val := h + v
    f :=
      { z := f.z
        n := false
        h := decide (h.toNat % 0x1000 + v.toNat % 0x1000 > 0x0FFF)
        c := decide (h.toNat + v.toNat > 0xFFFF) } }

/-- SP plus a signed displacement (R293, R294): the flags come from the low byte, with e unsigned. -/
def addSpDisp (sp : Word) (e : Byte) : Alu16 :=
  { val := sp + sext16 e
    f :=
      { z := false
        n := false
        h := decide (sp.toNat % 16 + nib e > 0x0F)
        c := decide (sp.toNat % 256 + e.toNat > 0xFF) } }

/-- The rotates and shifts on a byte (43_rotate_shift_bit.md R315-R322): the result and the new Cf, `cf` being the old. -/
def shiftVal (op : ShiftOp) (v : Byte) (cf : Bool) : Byte × Bool :=
  let b7 := v.getLsbD 7
  let b0 := v.getLsbD 0
  match op with
  | .rlc => ((v <<< 1) ||| BitVec.ofNat 8 (bitNat b7), b7)
  | .rrc => ((v >>> 1) ||| (BitVec.ofNat 8 (bitNat b0) <<< 7), b0)
  | .rl => ((v <<< 1) ||| BitVec.ofNat 8 (bitNat cf), b7)
  | .rr => ((v >>> 1) ||| (BitVec.ofNat 8 (bitNat cf) <<< 7), b0)
  | .sla => (v <<< 1, b7)
  | .sra => ((v >>> 1) ||| (v &&& 0x80#8), b0)
  | .swap => (((v &&& 0x0F#8) <<< 4) ||| (v >>> 4), false)
  | .srl => (v >>> 1, b0)

/-- A rotate or shift of the extended table (R315-R322): Z from the result. -/
def shift8 (op : ShiftOp) (v : Byte) (f : Flags) : Alu8 :=
  let r := shiftVal op v f.c
  { val := r.1, f := { z := decide (r.1 = 0#8), n := false, h := false, c := r.2 } }

/-- An accumulator rotate (R310-R313): Z is 0. -/
def accRotate (op : ShiftOp) (v : Byte) (f : Flags) : Alu8 :=
  let r := shiftVal op v f.c
  { val := r.1, f := { z := false, n := false, h := false, c := r.2 } }

/-- `BIT b` (R323): Z from the bit, Cf unchanged. -/
def bitTest (b : Oct) (v : Byte) (f : Flags) : Flags :=
  { z := !v.getLsbD b.val, n := false, h := true, c := f.c }

/-- `RES b` (R324). -/
def resetBit (b : Oct) (v : Byte) : Byte := v &&& ~~~(1#8 <<< b.val)

/-- `SET b` (R325). -/
def setBit (b : Oct) (v : Byte) : Byte := v ||| (1#8 <<< b.val)

end Sys2Proof.Machine
end

