-- ==== Sys2Proof/Machine/Operands.lean ====
section
/-! DEFINITION. The operand forms: the eight locations (30_encoding.md R183, R188; 43_rotate_shift_bit.md R314), the ALU source (41_alu8.md R250), the pointers of the A loads and stores (40_loads.md R205-R212). -/

namespace Sys2Proof.Machine

/-- `read_loc` (R314): a register, or the byte at HL. -/
def readLoc (l : Loc) (s : State) : Out (Byte × State) :=
  match l with
  | .reg r => .next (s.reg r, s)
  | .indHl => readByte s.hl s

/-- `write_loc` (R314). -/
def writeLoc (l : Loc) (v : Byte) (s : State) : Out State :=
  match l with
  | .reg r => .next (s.setReg r v)
  | .indHl => writeByte s.hl v s

/-- The source operand of an ALU operation (R250). -/
def readSrc (src : Src) (s : State) : Out (Byte × State) :=
  match src with
  | .reg r => .next (s.reg r, s)
  | .indHl => readByte s.hl s
  | .imm d8 => .next (d8, s)

/-- The cycles of an ALU operation by its source form (R250). -/
def srcCycles (src : Src) : Nat :=
  match src with
  | .reg _ => 4
  | .indHl => 8
  | .imm _ => 8

/-- The address a pointer form uses (R205-R212). -/
def ptrAddr (p : Ptr) (s : State) : Word :=
  match p with
  | .bc => s.bc
  | .de => s.de
  | .hlInc => s.hl
  | .hlDec => s.hl

/-- What the pointer form does to HL after its access (R209-R212). -/
def ptrStep (p : Ptr) (s : State) : State :=
  match p with
  | .bc => s
  | .de => s
  | .hlInc => s.setPair .hl (s.hl + 1#16)
  | .hlDec => s.setPair .hl (s.hl - 1#16)

/-- Cycles of a CB instruction that reads and writes its location (R314). -/
def locCycles (l : Loc) (onReg onMem : Nat) : Nat :=
  match l with
  | .reg _ => onReg
  | .indHl => onMem

/-- Read a location, compute a value and flags, write the value back (R314; 41_alu8.md R259-R262). -/
def modifyLoc (l : Loc) (g : Byte → Flags → Alu8) (n : Nat) (s : State) : Out State :=
  andThen (readLoc l s) fun r =>
    andThen (writeLoc l (g r.1 r.2.f).val { r.2 with f := (g r.1 r.2.f).f }) (done n)

end Sys2Proof.Machine
end

