-- ==== Sys2Proof/Machine/Alu16.lean ====
section
/-! DEFINITION. 16-bit arithmetic (42_alu16.md). -/

namespace Sys2Proof.Machine

/-- `INC rr` (R290): no flag. -/
def incPair (p : Rp) (s : State) : Out State := done 8 (s.setPair p (s.pair p + 1#16))

/-- `DEC rr` (R291): no flag. -/
def decPair (p : Rp) (s : State) : Out State := done 8 (s.setPair p (s.pair p - 1#16))

/-- `ADD HL,rr` (R292). -/
def addHl (p : Rp) (s : State) : Out State :=
  let res := add16 s.hl (s.pair p) s.f
  done 8 { (s.setPair .hl res.val) with f := res.f }

/-- `ADD SP,e` (R293). -/
def addSp (e : Byte) (s : State) : Out State :=
  done 16 { s with sp := (addSpDisp s.sp e).val, f := (addSpDisp s.sp e).f }

/-- `LD HL,SP+e` (R294): SP is not written. -/
def ldHlSpDisp (e : Byte) (s : State) : Out State :=
  let res := addSpDisp s.sp e
  done 12 { (s.setPair .hl res.val) with f := res.f }

/-- `INC BC` (R290). -/
def execIncBc (s : State) : Out State := incPair .bc s

/-- `ADD HL,BC` (R292). -/
def execAddHlBc (s : State) : Out State := addHl .bc s

/-- `DEC BC` (R291). -/
def execDecBc (s : State) : Out State := decPair .bc s

/-- `INC DE` (R290). -/
def execIncDe (s : State) : Out State := incPair .de s

/-- `ADD HL,DE` (R292). -/
def execAddHlDe (s : State) : Out State := addHl .de s

/-- `DEC DE` (R291). -/
def execDecDe (s : State) : Out State := decPair .de s

/-- `INC HL` (R290). -/
def execIncHl (s : State) : Out State := incPair .hl s

/-- `ADD HL,HL` (R292). -/
def execAddHlHl (s : State) : Out State := addHl .hl s

/-- `DEC HL` (R291). -/
def execDecHl (s : State) : Out State := decPair .hl s

/-- `INC SP` (R290). -/
def execIncSp (s : State) : Out State := incPair .sp s

/-- `ADD HL,SP` (R292). -/
def execAddHlSp (s : State) : Out State := addHl .sp s

/-- `DEC SP` (R291). -/
def execDecSp (s : State) : Out State := decPair .sp s

/-- `ADD SP,e8` (R293). -/
def execAddSpE8 (v : Byte) (s : State) : Out State := addSp v s

/-- `LD HL,SP+e8` (R294). -/
def execLdHlSpE8 (v : Byte) (s : State) : Out State := ldHlSpDisp v s

end Sys2Proof.Machine
end

