-- ==== Sys2Proof/Machine/Alu8.lean ====
section
/-! DEFINITION. 8-bit arithmetic and logic (41_alu8.md). -/

namespace Sys2Proof.Machine

/-- An ALU operation on A and a source operand (R250-R258): the operand is read before A is written. -/
def aluOnA (op : AluOp) (src : Src) (s : State) : Out State :=
  andThen (readSrc src s) fun r =>
    let res := alu op r.2.regs.a r.1 r.2.f
    done (srcCycles src) { (r.2.setReg .a res.val) with f := res.f }

/-- `DAA` (R263). -/
def decimalAdjust (s : State) : Out State :=
  done 4 { (s.setReg .a (daa8 s.regs.a s.f).val) with f := (daa8 s.regs.a s.f).f }

/-- `CPL` (R264): Z and Cf unchanged. -/
def complementA (s : State) : Out State :=
  done 4 { (s.setReg .a (~~~s.regs.a)) with f := { s.f with n := true, h := true } }

/-- `SCF` (R265): Z unchanged. -/
def setCarry (s : State) : Out State := done 4 { s with f := { s.f with n := false, h := false, c := true } }

/-- `CCF` (R266): Z unchanged. -/
def complementCarry (s : State) : Out State :=
  done 4 { s with f := { s.f with n := false, h := false, c := !s.f.c } }

/-- `INC B` (R259). -/
def execIncB (s : State) : Out State := modifyLoc (.reg .b) inc8 4 s

/-- `DEC B` (R261). -/
def execDecB (s : State) : Out State := modifyLoc (.reg .b) dec8 4 s

/-- `INC C` (R259). -/
def execIncC (s : State) : Out State := modifyLoc (.reg .c) inc8 4 s

/-- `DEC C` (R261). -/
def execDecC (s : State) : Out State := modifyLoc (.reg .c) dec8 4 s

/-- `INC D` (R259). -/
def execIncD (s : State) : Out State := modifyLoc (.reg .d) inc8 4 s

/-- `DEC D` (R261). -/
def execDecD (s : State) : Out State := modifyLoc (.reg .d) dec8 4 s

/-- `INC E` (R259). -/
def execIncE (s : State) : Out State := modifyLoc (.reg .e) inc8 4 s

/-- `DEC E` (R261). -/
def execDecE (s : State) : Out State := modifyLoc (.reg .e) dec8 4 s

/-- `INC H` (R259). -/
def execIncH (s : State) : Out State := modifyLoc (.reg .h) inc8 4 s

/-- `DEC H` (R261). -/
def execDecH (s : State) : Out State := modifyLoc (.reg .h) dec8 4 s

/-- `DAA` (R263). -/
def execDaa (s : State) : Out State := decimalAdjust s

/-- `INC L` (R259). -/
def execIncL (s : State) : Out State := modifyLoc (.reg .l) inc8 4 s

/-- `DEC L` (R261). -/
def execDecL (s : State) : Out State := modifyLoc (.reg .l) dec8 4 s

/-- `CPL` (R264). -/
def execCpl (s : State) : Out State := complementA s

/-- `INC (HL)` (R260). -/
def execIncIndHl (s : State) : Out State := modifyLoc .indHl inc8 12 s

/-- `DEC (HL)` (R262). -/
def execDecIndHl (s : State) : Out State := modifyLoc .indHl dec8 12 s

/-- `SCF` (R265). -/
def execScf (s : State) : Out State := setCarry s

/-- `INC A` (R259). -/
def execIncA (s : State) : Out State := modifyLoc (.reg .a) inc8 4 s

/-- `DEC A` (R261). -/
def execDecA (s : State) : Out State := modifyLoc (.reg .a) dec8 4 s

/-- `CCF` (R266). -/
def execCcf (s : State) : Out State := complementCarry s

/-- `ADD A,B` (R251). -/
def execAddAB (s : State) : Out State := aluOnA .add (.reg .b) s

/-- `ADD A,C` (R251). -/
def execAddAC (s : State) : Out State := aluOnA .add (.reg .c) s

/-- `ADD A,D` (R251). -/
def execAddAD (s : State) : Out State := aluOnA .add (.reg .d) s

/-- `ADD A,E` (R251). -/
def execAddAE (s : State) : Out State := aluOnA .add (.reg .e) s

/-- `ADD A,H` (R251). -/
def execAddAH (s : State) : Out State := aluOnA .add (.reg .h) s

/-- `ADD A,L` (R251). -/
def execAddAL (s : State) : Out State := aluOnA .add (.reg .l) s

/-- `ADD A,(HL)` (R251). -/
def execAddAIndHl (s : State) : Out State := aluOnA .add .indHl s

/-- `ADD A,A` (R251). -/
def execAddAA (s : State) : Out State := aluOnA .add (.reg .a) s

/-- `ADC A,B` (R252). -/
def execAdcAB (s : State) : Out State := aluOnA .adc (.reg .b) s

/-- `ADC A,C` (R252). -/
def execAdcAC (s : State) : Out State := aluOnA .adc (.reg .c) s

/-- `ADC A,D` (R252). -/
def execAdcAD (s : State) : Out State := aluOnA .adc (.reg .d) s

/-- `ADC A,E` (R252). -/
def execAdcAE (s : State) : Out State := aluOnA .adc (.reg .e) s

/-- `ADC A,H` (R252). -/
def execAdcAH (s : State) : Out State := aluOnA .adc (.reg .h) s

/-- `ADC A,L` (R252). -/
def execAdcAL (s : State) : Out State := aluOnA .adc (.reg .l) s

/-- `ADC A,(HL)` (R252). -/
def execAdcAIndHl (s : State) : Out State := aluOnA .adc .indHl s

/-- `ADC A,A` (R252). -/
def execAdcAA (s : State) : Out State := aluOnA .adc (.reg .a) s

/-- `SUB B` (R253). -/
def execSubB (s : State) : Out State := aluOnA .sub (.reg .b) s

/-- `SUB C` (R253). -/
def execSubC (s : State) : Out State := aluOnA .sub (.reg .c) s

/-- `SUB D` (R253). -/
def execSubD (s : State) : Out State := aluOnA .sub (.reg .d) s

/-- `SUB E` (R253). -/
def execSubE (s : State) : Out State := aluOnA .sub (.reg .e) s

/-- `SUB H` (R253). -/
def execSubH (s : State) : Out State := aluOnA .sub (.reg .h) s

/-- `SUB L` (R253). -/
def execSubL (s : State) : Out State := aluOnA .sub (.reg .l) s

/-- `SUB (HL)` (R253). -/
def execSubIndHl (s : State) : Out State := aluOnA .sub .indHl s

/-- `SUB A` (R253). -/
def execSubA (s : State) : Out State := aluOnA .sub (.reg .a) s

/-- `SBC A,B` (R254). -/
def execSbcAB (s : State) : Out State := aluOnA .sbc (.reg .b) s

/-- `SBC A,C` (R254). -/
def execSbcAC (s : State) : Out State := aluOnA .sbc (.reg .c) s

/-- `SBC A,D` (R254). -/
def execSbcAD (s : State) : Out State := aluOnA .sbc (.reg .d) s

/-- `SBC A,E` (R254). -/
def execSbcAE (s : State) : Out State := aluOnA .sbc (.reg .e) s

/-- `SBC A,H` (R254). -/
def execSbcAH (s : State) : Out State := aluOnA .sbc (.reg .h) s

/-- `SBC A,L` (R254). -/
def execSbcAL (s : State) : Out State := aluOnA .sbc (.reg .l) s

/-- `SBC A,(HL)` (R254). -/
def execSbcAIndHl (s : State) : Out State := aluOnA .sbc .indHl s

/-- `SBC A,A` (R254). -/
def execSbcAA (s : State) : Out State := aluOnA .sbc (.reg .a) s

/-- `AND B` (R255). -/
def execAndB (s : State) : Out State := aluOnA .and (.reg .b) s

/-- `AND C` (R255). -/
def execAndC (s : State) : Out State := aluOnA .and (.reg .c) s

/-- `AND D` (R255). -/
def execAndD (s : State) : Out State := aluOnA .and (.reg .d) s

/-- `AND E` (R255). -/
def execAndE (s : State) : Out State := aluOnA .and (.reg .e) s

/-- `AND H` (R255). -/
def execAndH (s : State) : Out State := aluOnA .and (.reg .h) s

/-- `AND L` (R255). -/
def execAndL (s : State) : Out State := aluOnA .and (.reg .l) s

/-- `AND (HL)` (R255). -/
def execAndIndHl (s : State) : Out State := aluOnA .and .indHl s

/-- `AND A` (R255). -/
def execAndA (s : State) : Out State := aluOnA .and (.reg .a) s

/-- `XOR B` (R256). -/
def execXorB (s : State) : Out State := aluOnA .xor (.reg .b) s

/-- `XOR C` (R256). -/
def execXorC (s : State) : Out State := aluOnA .xor (.reg .c) s

/-- `XOR D` (R256). -/
def execXorD (s : State) : Out State := aluOnA .xor (.reg .d) s

/-- `XOR E` (R256). -/
def execXorE (s : State) : Out State := aluOnA .xor (.reg .e) s

/-- `XOR H` (R256). -/
def execXorH (s : State) : Out State := aluOnA .xor (.reg .h) s

/-- `XOR L` (R256). -/
def execXorL (s : State) : Out State := aluOnA .xor (.reg .l) s

/-- `XOR (HL)` (R256). -/
def execXorIndHl (s : State) : Out State := aluOnA .xor .indHl s

/-- `XOR A` (R256). -/
def execXorA (s : State) : Out State := aluOnA .xor (.reg .a) s

/-- `OR B` (R257). -/
def execOrB (s : State) : Out State := aluOnA .or (.reg .b) s

/-- `OR C` (R257). -/
def execOrC (s : State) : Out State := aluOnA .or (.reg .c) s

/-- `OR D` (R257). -/
def execOrD (s : State) : Out State := aluOnA .or (.reg .d) s

/-- `OR E` (R257). -/
def execOrE (s : State) : Out State := aluOnA .or (.reg .e) s

/-- `OR H` (R257). -/
def execOrH (s : State) : Out State := aluOnA .or (.reg .h) s

/-- `OR L` (R257). -/
def execOrL (s : State) : Out State := aluOnA .or (.reg .l) s

/-- `OR (HL)` (R257). -/
def execOrIndHl (s : State) : Out State := aluOnA .or .indHl s

/-- `OR A` (R257). -/
def execOrA (s : State) : Out State := aluOnA .or (.reg .a) s

/-- `CP B` (R258). -/
def execCpB (s : State) : Out State := aluOnA .cp (.reg .b) s

/-- `CP C` (R258). -/
def execCpC (s : State) : Out State := aluOnA .cp (.reg .c) s

/-- `CP D` (R258). -/
def execCpD (s : State) : Out State := aluOnA .cp (.reg .d) s

/-- `CP E` (R258). -/
def execCpE (s : State) : Out State := aluOnA .cp (.reg .e) s

/-- `CP H` (R258). -/
def execCpH (s : State) : Out State := aluOnA .cp (.reg .h) s

/-- `CP L` (R258). -/
def execCpL (s : State) : Out State := aluOnA .cp (.reg .l) s

/-- `CP (HL)` (R258). -/
def execCpIndHl (s : State) : Out State := aluOnA .cp .indHl s

/-- `CP A` (R258). -/
def execCpA (s : State) : Out State := aluOnA .cp (.reg .a) s

/-- `ADD A,d8` (R251). -/
def execAddAD8 (v : Byte) (s : State) : Out State := aluOnA .add (.imm v) s

/-- `ADC A,d8` (R252). -/
def execAdcAD8 (v : Byte) (s : State) : Out State := aluOnA .adc (.imm v) s

/-- `SUB d8` (R253). -/
def execSubD8 (v : Byte) (s : State) : Out State := aluOnA .sub (.imm v) s

/-- `SBC A,d8` (R254). -/
def execSbcAD8 (v : Byte) (s : State) : Out State := aluOnA .sbc (.imm v) s

/-- `AND d8` (R255). -/
def execAndD8 (v : Byte) (s : State) : Out State := aluOnA .and (.imm v) s

/-- `XOR d8` (R256). -/
def execXorD8 (v : Byte) (s : State) : Out State := aluOnA .xor (.imm v) s

/-- `OR d8` (R257). -/
def execOrD8 (v : Byte) (s : State) : Out State := aluOnA .or (.imm v) s

/-- `CP d8` (R258). -/
def execCpD8 (v : Byte) (s : State) : Out State := aluOnA .cp (.imm v) s

end Sys2Proof.Machine
end

