-- ==== Sys2Proof/Machine/Control.lean ====
section
/-! DEFINITION. Jumps, calls, returns, restarts (44_control.md). PC holds the address after the instruction's bytes (R350). -/

namespace Sys2Proof.Machine

/-- A jump (R351, R353, R354). -/
def jumpTo (target : Word) (n : Nat) (s : State) : Out State := done n { s with pc := target }

/-- A jump if the condition holds (R352, R355). -/
def jumpIf (cc : Cond) (target : Word) (taken notTaken : Nat) (s : State) : Out State :=
  if condHolds cc s.f then jumpTo target taken s else done notTaken s

/-- `CALL` and `RST` (R356, R361): push the address after the instruction, then jump. -/
def callTo (target : Word) (n : Nat) (s : State) : Out State :=
  andThen (push16 s.pc s) fun t => jumpTo target n t

/-- `CALL cc` (R357): no stack access where it is not taken. -/
def callIf (cc : Cond) (target : Word) (s : State) : Out State :=
  if condHolds cc s.f then callTo target 24 s else done 12 s

/-- `RET` (R358). -/
def returnTo (n : Nat) (s : State) : Out State := andThen (pop16 s) fun r => jumpTo r.1 n r.2

/-- `RET cc` (R359). -/
def returnIf (cc : Cond) (s : State) : Out State := if condHolds cc s.f then returnTo 20 s else done 8 s

/-- `JR e8` (R354). -/
def execJrE8 (v : Byte) (s : State) : Out State := jumpTo (s.pc + sext16 v) 12 s

/-- `JR NZ,e8` (R355). -/
def execJrNzE8 (v : Byte) (s : State) : Out State := jumpIf .nz (s.pc + sext16 v) 12 8 s

/-- `JR Z,e8` (R355). -/
def execJrZE8 (v : Byte) (s : State) : Out State := jumpIf .z (s.pc + sext16 v) 12 8 s

/-- `JR NC,e8` (R355). -/
def execJrNcE8 (v : Byte) (s : State) : Out State := jumpIf .nc (s.pc + sext16 v) 12 8 s

/-- `JR C,e8` (R355). -/
def execJrCE8 (v : Byte) (s : State) : Out State := jumpIf .c (s.pc + sext16 v) 12 8 s

/-- `RET NZ` (R359). -/
def execRetNz (s : State) : Out State := returnIf .nz s

/-- `JP NZ,a16` (R352). -/
def execJpNzA16 (v : Word) (s : State) : Out State := jumpIf .nz v 16 12 s

/-- `JP a16` (R351). -/
def execJpA16 (v : Word) (s : State) : Out State := jumpTo v 16 s

/-- `CALL NZ,a16` (R357). -/
def execCallNzA16 (v : Word) (s : State) : Out State := callIf .nz v s

/-- `RST 0x00` (R361). -/
def execRst00 (s : State) : Out State := callTo 0x0000#16 16 s

/-- `RET Z` (R359). -/
def execRetZ (s : State) : Out State := returnIf .z s

/-- `RET` (R358). -/
def execRet (s : State) : Out State := returnTo 16 s

/-- `JP Z,a16` (R352). -/
def execJpZA16 (v : Word) (s : State) : Out State := jumpIf .z v 16 12 s

/-- `CALL Z,a16` (R357). -/
def execCallZA16 (v : Word) (s : State) : Out State := callIf .z v s

/-- `CALL a16` (R356). -/
def execCallA16 (v : Word) (s : State) : Out State := callTo v 24 s

/-- `RST 0x08` (R361). -/
def execRst08 (s : State) : Out State := callTo 0x0008#16 16 s

/-- `RET NC` (R359). -/
def execRetNc (s : State) : Out State := returnIf .nc s

/-- `JP NC,a16` (R352). -/
def execJpNcA16 (v : Word) (s : State) : Out State := jumpIf .nc v 16 12 s

/-- `CALL NC,a16` (R357). -/
def execCallNcA16 (v : Word) (s : State) : Out State := callIf .nc v s

/-- `RST 0x10` (R361). -/
def execRst10 (s : State) : Out State := callTo 0x0010#16 16 s

/-- `RET C` (R359). -/
def execRetC (s : State) : Out State := returnIf .c s

/-- `RETI` (R360). -/
def execReti (s : State) : Out State := andThen (returnFromIrq s) (done 16)

/-- `JP C,a16` (R352). -/
def execJpCA16 (v : Word) (s : State) : Out State := jumpIf .c v 16 12 s

/-- `CALL C,a16` (R357). -/
def execCallCA16 (v : Word) (s : State) : Out State := callIf .c v s

/-- `RST 0x18` (R361). -/
def execRst18 (s : State) : Out State := callTo 0x0018#16 16 s

/-- `RST 0x20` (R361). -/
def execRst20 (s : State) : Out State := callTo 0x0020#16 16 s

/-- `JP HL` (R353). -/
def execJpHl (s : State) : Out State := jumpTo s.hl 4 s

/-- `RST 0x28` (R361). -/
def execRst28 (s : State) : Out State := callTo 0x0028#16 16 s

/-- `RST 0x30` (R361). -/
def execRst30 (s : State) : Out State := callTo 0x0030#16 16 s

/-- `RST 0x38` (R361). -/
def execRst38 (s : State) : Out State := callTo 0x0038#16 16 s

end Sys2Proof.Machine
end

