-- ==== Sys2Proof/Machine/Loads.lean ====
section
/-! DEFINITION. Loads, stores and the stack (40_loads.md). -/

namespace Sys2Proof.Machine

/-- `LD r,r'` (R200). -/
def ldReg (dst src : Reg8) (s : State) : Out State := done 4 (s.setReg dst (s.reg src))

/-- `LD r,(HL)` (R201): the address is the old HL. -/
def ldRegInd (dst : Reg8) (s : State) : Out State :=
  andThen (readByte s.hl s) fun r => done 8 (r.2.setReg dst r.1)

/-- `LD (HL),r` (R202). -/
def stInd (src : Reg8) (s : State) : Out State := andThen (writeByte s.hl (s.reg src) s) (done 8)

/-- `LD r,d8` (R203). -/
def ldRegImm (dst : Reg8) (d8 : Byte) (s : State) : Out State := done 8 (s.setReg dst d8)

/-- `LD (HL),d8` (R204). -/
def stIndImm (d8 : Byte) (s : State) : Out State := andThen (writeByte s.hl d8 s) (done 12)

/-- `LD A,(BC)`, `LD A,(DE)`, `LD A,(HL+)`, `LD A,(HL-)` (R205, R206, R209, R210). -/
def ldAPtr (p : Ptr) (s : State) : Out State :=
  andThen (readByte (ptrAddr p s) s) fun r => done 8 (ptrStep p (r.2.setReg .a r.1))

/-- `LD (BC),A`, `LD (DE),A`, `LD (HL+),A`, `LD (HL-),A` (R207, R208, R211, R212). -/
def stAPtr (p : Ptr) (s : State) : Out State :=
  andThen (writeByte (ptrAddr p s) s.regs.a s) fun t => done 8 (ptrStep p t)

/-- Load A from an address (R214, R216, R218). -/
def loadA (a : Word) (n : Nat) (s : State) : Out State :=
  andThen (readByte a s) fun r => done n (r.2.setReg .a r.1)

/-- Store A at an address (R213, R215, R217). -/
def storeA (a : Word) (n : Nat) (s : State) : Out State := andThen (writeByte a s.regs.a s) (done n)

/-- `LD rr,d16` (R219). -/
def ldPairImm (p : Rp) (d16 : Word) (s : State) : Out State := done 12 (s.setPair p d16)

/-- `LD (a16),SP` (R220). -/
def storeSp (a16 : Word) (s : State) : Out State := andThen (writeWord a16 s.sp s) (done 20)

/-- `LD SP,HL` (R221). -/
def ldSpHl (s : State) : Out State := done 8 { s with sp := s.hl }

/-- `PUSH rr` (R224, R225). -/
def push (p : Rp2) (s : State) : Out State := andThen (push16 (s.pair2 p) s) (done 16)

/-- `POP rr` (R226, R227). -/
def pop (p : Rp2) (s : State) : Out State := andThen (pop16 s) fun r => done 12 (r.2.setPair2 p r.1)

/-- `LD BC,d16` (R219). -/
def execLdBcD16 (v : Word) (s : State) : Out State := ldPairImm .bc v s

/-- `LD (BC),A` (R207). -/
def execLdIndBcA (s : State) : Out State := stAPtr .bc s

/-- `LD B,d8` (R203). -/
def execLdBD8 (v : Byte) (s : State) : Out State := ldRegImm .b v s

/-- `LD (a16),SP` (R220). -/
def execLdIndA16Sp (v : Word) (s : State) : Out State := storeSp v s

/-- `LD A,(BC)` (R205). -/
def execLdAIndBc (s : State) : Out State := ldAPtr .bc s

/-- `LD C,d8` (R203). -/
def execLdCD8 (v : Byte) (s : State) : Out State := ldRegImm .c v s

/-- `LD DE,d16` (R219). -/
def execLdDeD16 (v : Word) (s : State) : Out State := ldPairImm .de v s

/-- `LD (DE),A` (R208). -/
def execLdIndDeA (s : State) : Out State := stAPtr .de s

/-- `LD D,d8` (R203). -/
def execLdDD8 (v : Byte) (s : State) : Out State := ldRegImm .d v s

/-- `LD A,(DE)` (R206). -/
def execLdAIndDe (s : State) : Out State := ldAPtr .de s

/-- `LD E,d8` (R203). -/
def execLdED8 (v : Byte) (s : State) : Out State := ldRegImm .e v s

/-- `LD HL,d16` (R219). -/
def execLdHlD16 (v : Word) (s : State) : Out State := ldPairImm .hl v s

/-- `LD (HL+),A` (R211). -/
def execLdIndHlIncA (s : State) : Out State := stAPtr .hlInc s

/-- `LD H,d8` (R203). -/
def execLdHD8 (v : Byte) (s : State) : Out State := ldRegImm .h v s

/-- `LD A,(HL+)` (R209). -/
def execLdAIndHlInc (s : State) : Out State := ldAPtr .hlInc s

/-- `LD L,d8` (R203). -/
def execLdLD8 (v : Byte) (s : State) : Out State := ldRegImm .l v s

/-- `LD SP,d16` (R219). -/
def execLdSpD16 (v : Word) (s : State) : Out State := ldPairImm .sp v s

/-- `LD (HL-),A` (R212). -/
def execLdIndHlDecA (s : State) : Out State := stAPtr .hlDec s

/-- `LD (HL),d8` (R204). -/
def execLdIndHlD8 (v : Byte) (s : State) : Out State := stIndImm v s

/-- `LD A,(HL-)` (R210). -/
def execLdAIndHlDec (s : State) : Out State := ldAPtr .hlDec s

/-- `LD A,d8` (R203). -/
def execLdAD8 (v : Byte) (s : State) : Out State := ldRegImm .a v s

/-- `LD B,B` (R200). -/
def execLdBB (s : State) : Out State := ldReg .b .b s

/-- `LD B,C` (R200). -/
def execLdBC (s : State) : Out State := ldReg .b .c s

/-- `LD B,D` (R200). -/
def execLdBD (s : State) : Out State := ldReg .b .d s

/-- `LD B,E` (R200). -/
def execLdBE (s : State) : Out State := ldReg .b .e s

/-- `LD B,H` (R200). -/
def execLdBH (s : State) : Out State := ldReg .b .h s

/-- `LD B,L` (R200). -/
def execLdBL (s : State) : Out State := ldReg .b .l s

/-- `LD B,(HL)` (R201). -/
def execLdBIndHl (s : State) : Out State := ldRegInd .b s

/-- `LD B,A` (R200). -/
def execLdBA (s : State) : Out State := ldReg .b .a s

/-- `LD C,B` (R200). -/
def execLdCB (s : State) : Out State := ldReg .c .b s

/-- `LD C,C` (R200). -/
def execLdCC (s : State) : Out State := ldReg .c .c s

/-- `LD C,D` (R200). -/
def execLdCD (s : State) : Out State := ldReg .c .d s

/-- `LD C,E` (R200). -/
def execLdCE (s : State) : Out State := ldReg .c .e s

/-- `LD C,H` (R200). -/
def execLdCH (s : State) : Out State := ldReg .c .h s

/-- `LD C,L` (R200). -/
def execLdCL (s : State) : Out State := ldReg .c .l s

/-- `LD C,(HL)` (R201). -/
def execLdCIndHl (s : State) : Out State := ldRegInd .c s

/-- `LD C,A` (R200). -/
def execLdCA (s : State) : Out State := ldReg .c .a s

/-- `LD D,B` (R200). -/
def execLdDB (s : State) : Out State := ldReg .d .b s

/-- `LD D,C` (R200). -/
def execLdDC (s : State) : Out State := ldReg .d .c s

/-- `LD D,D` (R200). -/
def execLdDD (s : State) : Out State := ldReg .d .d s

/-- `LD D,E` (R200). -/
def execLdDE (s : State) : Out State := ldReg .d .e s

/-- `LD D,H` (R200). -/
def execLdDH (s : State) : Out State := ldReg .d .h s

/-- `LD D,L` (R200). -/
def execLdDL (s : State) : Out State := ldReg .d .l s

/-- `LD D,(HL)` (R201). -/
def execLdDIndHl (s : State) : Out State := ldRegInd .d s

/-- `LD D,A` (R200). -/
def execLdDA (s : State) : Out State := ldReg .d .a s

/-- `LD E,B` (R200). -/
def execLdEB (s : State) : Out State := ldReg .e .b s

/-- `LD E,C` (R200). -/
def execLdEC (s : State) : Out State := ldReg .e .c s

/-- `LD E,D` (R200). -/
def execLdED (s : State) : Out State := ldReg .e .d s

/-- `LD E,E` (R200). -/
def execLdEE (s : State) : Out State := ldReg .e .e s

/-- `LD E,H` (R200). -/
def execLdEH (s : State) : Out State := ldReg .e .h s

/-- `LD E,L` (R200). -/
def execLdEL (s : State) : Out State := ldReg .e .l s

/-- `LD E,(HL)` (R201). -/
def execLdEIndHl (s : State) : Out State := ldRegInd .e s

/-- `LD E,A` (R200). -/
def execLdEA (s : State) : Out State := ldReg .e .a s

/-- `LD H,B` (R200). -/
def execLdHB (s : State) : Out State := ldReg .h .b s

/-- `LD H,C` (R200). -/
def execLdHC (s : State) : Out State := ldReg .h .c s

/-- `LD H,D` (R200). -/
def execLdHD (s : State) : Out State := ldReg .h .d s

/-- `LD H,E` (R200). -/
def execLdHE (s : State) : Out State := ldReg .h .e s

/-- `LD H,H` (R200). -/
def execLdHH (s : State) : Out State := ldReg .h .h s

/-- `LD H,L` (R200). -/
def execLdHL (s : State) : Out State := ldReg .h .l s

/-- `LD H,(HL)` (R201). -/
def execLdHIndHl (s : State) : Out State := ldRegInd .h s

/-- `LD H,A` (R200). -/
def execLdHA (s : State) : Out State := ldReg .h .a s

/-- `LD L,B` (R200). -/
def execLdLB (s : State) : Out State := ldReg .l .b s

/-- `LD L,C` (R200). -/
def execLdLC (s : State) : Out State := ldReg .l .c s

/-- `LD L,D` (R200). -/
def execLdLD (s : State) : Out State := ldReg .l .d s

/-- `LD L,E` (R200). -/
def execLdLE (s : State) : Out State := ldReg .l .e s

/-- `LD L,H` (R200). -/
def execLdLH (s : State) : Out State := ldReg .l .h s

/-- `LD L,L` (R200). -/
def execLdLL (s : State) : Out State := ldReg .l .l s

/-- `LD L,(HL)` (R201). -/
def execLdLIndHl (s : State) : Out State := ldRegInd .l s

/-- `LD L,A` (R200). -/
def execLdLA (s : State) : Out State := ldReg .l .a s

/-- `LD (HL),B` (R202). -/
def execLdIndHlB (s : State) : Out State := stInd .b s

/-- `LD (HL),C` (R202). -/
def execLdIndHlC (s : State) : Out State := stInd .c s

/-- `LD (HL),D` (R202). -/
def execLdIndHlD (s : State) : Out State := stInd .d s

/-- `LD (HL),E` (R202). -/
def execLdIndHlE (s : State) : Out State := stInd .e s

/-- `LD (HL),H` (R202). -/
def execLdIndHlH (s : State) : Out State := stInd .h s

/-- `LD (HL),L` (R202). -/
def execLdIndHlL (s : State) : Out State := stInd .l s

/-- `LD (HL),A` (R202). -/
def execLdIndHlA (s : State) : Out State := stInd .a s

/-- `LD A,B` (R200). -/
def execLdAB (s : State) : Out State := ldReg .a .b s

/-- `LD A,C` (R200). -/
def execLdAC (s : State) : Out State := ldReg .a .c s

/-- `LD A,D` (R200). -/
def execLdAD (s : State) : Out State := ldReg .a .d s

/-- `LD A,E` (R200). -/
def execLdAE (s : State) : Out State := ldReg .a .e s

/-- `LD A,H` (R200). -/
def execLdAH (s : State) : Out State := ldReg .a .h s

/-- `LD A,L` (R200). -/
def execLdAL (s : State) : Out State := ldReg .a .l s

/-- `LD A,(HL)` (R201). -/
def execLdAIndHl (s : State) : Out State := ldRegInd .a s

/-- `LD A,A` (R200). -/
def execLdAA (s : State) : Out State := ldReg .a .a s

/-- `POP BC` (R226). -/
def execPopBc (s : State) : Out State := pop .bc s

/-- `PUSH BC` (R224). -/
def execPushBc (s : State) : Out State := push .bc s

/-- `POP DE` (R226). -/
def execPopDe (s : State) : Out State := pop .de s

/-- `PUSH DE` (R224). -/
def execPushDe (s : State) : Out State := push .de s

/-- `LDH (a8),A` (R213). -/
def execLdhIndA8A (v : Byte) (s : State) : Out State := storeA (highPage v) 12 s

/-- `POP HL` (R226). -/
def execPopHl (s : State) : Out State := pop .hl s

/-- `LD (C),A` (R215). -/
def execLdIndCA (s : State) : Out State := storeA (highPage s.regs.c) 8 s

/-- `PUSH HL` (R224). -/
def execPushHl (s : State) : Out State := push .hl s

/-- `LD (a16),A` (R217). -/
def execLdIndA16A (v : Word) (s : State) : Out State := storeA v 16 s

/-- `LDH A,(a8)` (R214). -/
def execLdhAIndA8 (v : Byte) (s : State) : Out State := loadA (highPage v) 12 s

/-- `POP AF` (R227). -/
def execPopAf (s : State) : Out State := pop .af s

/-- `LD A,(C)` (R216). -/
def execLdAIndC (s : State) : Out State := loadA (highPage s.regs.c) 8 s

/-- `PUSH AF` (R225). -/
def execPushAf (s : State) : Out State := push .af s

/-- `LD SP,HL` (R221). -/
def execLdSpHl (s : State) : Out State := ldSpHl s

/-- `LD A,(a16)` (R218). -/
def execLdAIndA16 (v : Word) (s : State) : Out State := loadA v 16 s

end Sys2Proof.Machine
end

