-- ==== Sys2Proof/Machine/Bits.lean ====
section
/-! DEFINITION. Bit operations (43_rotate_shift_bit.md R323-R325). -/

namespace Sys2Proof.Machine

/-- `BIT b,loc` (R323): only reads; 8 cycles on a register, 12 on (HL). -/
def testBit (b : Oct) (l : Loc) (s : State) : Out State :=
  andThen (readLoc l s) fun r => done (locCycles l 8 12) { r.2 with f := bitTest b r.1 r.2.f }

/-- `RES b,loc` (R324): no flag, and the byte is written back. -/
def clearBit (b : Oct) (l : Loc) (s : State) : Out State :=
  modifyLoc l (fun v f => { val := resetBit b v, f := f }) (locCycles l 8 16) s

/-- `SET b,loc` (R325): no flag, and the byte is written back. -/
def raiseBit (b : Oct) (l : Loc) (s : State) : Out State :=
  modifyLoc l (fun v f => { val := setBit b v, f := f }) (locCycles l 8 16) s

/-- `BIT 0,B` (R323). -/
def execBit0B (s : State) : Out State := testBit .n0 (.reg .b) s

/-- `BIT 0,C` (R323). -/
def execBit0C (s : State) : Out State := testBit .n0 (.reg .c) s

/-- `BIT 0,D` (R323). -/
def execBit0D (s : State) : Out State := testBit .n0 (.reg .d) s

/-- `BIT 0,E` (R323). -/
def execBit0E (s : State) : Out State := testBit .n0 (.reg .e) s

/-- `BIT 0,H` (R323). -/
def execBit0H (s : State) : Out State := testBit .n0 (.reg .h) s

/-- `BIT 0,L` (R323). -/
def execBit0L (s : State) : Out State := testBit .n0 (.reg .l) s

/-- `BIT 0,(HL)` (R323). -/
def execBit0IndHl (s : State) : Out State := testBit .n0 .indHl s

/-- `BIT 0,A` (R323). -/
def execBit0A (s : State) : Out State := testBit .n0 (.reg .a) s

/-- `BIT 1,B` (R323). -/
def execBit1B (s : State) : Out State := testBit .n1 (.reg .b) s

/-- `BIT 1,C` (R323). -/
def execBit1C (s : State) : Out State := testBit .n1 (.reg .c) s

/-- `BIT 1,D` (R323). -/
def execBit1D (s : State) : Out State := testBit .n1 (.reg .d) s

/-- `BIT 1,E` (R323). -/
def execBit1E (s : State) : Out State := testBit .n1 (.reg .e) s

/-- `BIT 1,H` (R323). -/
def execBit1H (s : State) : Out State := testBit .n1 (.reg .h) s

/-- `BIT 1,L` (R323). -/
def execBit1L (s : State) : Out State := testBit .n1 (.reg .l) s

/-- `BIT 1,(HL)` (R323). -/
def execBit1IndHl (s : State) : Out State := testBit .n1 .indHl s

/-- `BIT 1,A` (R323). -/
def execBit1A (s : State) : Out State := testBit .n1 (.reg .a) s

/-- `BIT 2,B` (R323). -/
def execBit2B (s : State) : Out State := testBit .n2 (.reg .b) s

/-- `BIT 2,C` (R323). -/
def execBit2C (s : State) : Out State := testBit .n2 (.reg .c) s

/-- `BIT 2,D` (R323). -/
def execBit2D (s : State) : Out State := testBit .n2 (.reg .d) s

/-- `BIT 2,E` (R323). -/
def execBit2E (s : State) : Out State := testBit .n2 (.reg .e) s

/-- `BIT 2,H` (R323). -/
def execBit2H (s : State) : Out State := testBit .n2 (.reg .h) s

/-- `BIT 2,L` (R323). -/
def execBit2L (s : State) : Out State := testBit .n2 (.reg .l) s

/-- `BIT 2,(HL)` (R323). -/
def execBit2IndHl (s : State) : Out State := testBit .n2 .indHl s

/-- `BIT 2,A` (R323). -/
def execBit2A (s : State) : Out State := testBit .n2 (.reg .a) s

/-- `BIT 3,B` (R323). -/
def execBit3B (s : State) : Out State := testBit .n3 (.reg .b) s

/-- `BIT 3,C` (R323). -/
def execBit3C (s : State) : Out State := testBit .n3 (.reg .c) s

/-- `BIT 3,D` (R323). -/
def execBit3D (s : State) : Out State := testBit .n3 (.reg .d) s

/-- `BIT 3,E` (R323). -/
def execBit3E (s : State) : Out State := testBit .n3 (.reg .e) s

/-- `BIT 3,H` (R323). -/
def execBit3H (s : State) : Out State := testBit .n3 (.reg .h) s

/-- `BIT 3,L` (R323). -/
def execBit3L (s : State) : Out State := testBit .n3 (.reg .l) s

/-- `BIT 3,(HL)` (R323). -/
def execBit3IndHl (s : State) : Out State := testBit .n3 .indHl s

/-- `BIT 3,A` (R323). -/
def execBit3A (s : State) : Out State := testBit .n3 (.reg .a) s

/-- `BIT 4,B` (R323). -/
def execBit4B (s : State) : Out State := testBit .n4 (.reg .b) s

/-- `BIT 4,C` (R323). -/
def execBit4C (s : State) : Out State := testBit .n4 (.reg .c) s

/-- `BIT 4,D` (R323). -/
def execBit4D (s : State) : Out State := testBit .n4 (.reg .d) s

/-- `BIT 4,E` (R323). -/
def execBit4E (s : State) : Out State := testBit .n4 (.reg .e) s

/-- `BIT 4,H` (R323). -/
def execBit4H (s : State) : Out State := testBit .n4 (.reg .h) s

/-- `BIT 4,L` (R323). -/
def execBit4L (s : State) : Out State := testBit .n4 (.reg .l) s

/-- `BIT 4,(HL)` (R323). -/
def execBit4IndHl (s : State) : Out State := testBit .n4 .indHl s

/-- `BIT 4,A` (R323). -/
def execBit4A (s : State) : Out State := testBit .n4 (.reg .a) s

/-- `BIT 5,B` (R323). -/
def execBit5B (s : State) : Out State := testBit .n5 (.reg .b) s

/-- `BIT 5,C` (R323). -/
def execBit5C (s : State) : Out State := testBit .n5 (.reg .c) s

/-- `BIT 5,D` (R323). -/
def execBit5D (s : State) : Out State := testBit .n5 (.reg .d) s

/-- `BIT 5,E` (R323). -/
def execBit5E (s : State) : Out State := testBit .n5 (.reg .e) s

/-- `BIT 5,H` (R323). -/
def execBit5H (s : State) : Out State := testBit .n5 (.reg .h) s

/-- `BIT 5,L` (R323). -/
def execBit5L (s : State) : Out State := testBit .n5 (.reg .l) s

/-- `BIT 5,(HL)` (R323). -/
def execBit5IndHl (s : State) : Out State := testBit .n5 .indHl s

/-- `BIT 5,A` (R323). -/
def execBit5A (s : State) : Out State := testBit .n5 (.reg .a) s

/-- `BIT 6,B` (R323). -/
def execBit6B (s : State) : Out State := testBit .n6 (.reg .b) s

/-- `BIT 6,C` (R323). -/
def execBit6C (s : State) : Out State := testBit .n6 (.reg .c) s

/-- `BIT 6,D` (R323). -/
def execBit6D (s : State) : Out State := testBit .n6 (.reg .d) s

/-- `BIT 6,E` (R323). -/
def execBit6E (s : State) : Out State := testBit .n6 (.reg .e) s

/-- `BIT 6,H` (R323). -/
def execBit6H (s : State) : Out State := testBit .n6 (.reg .h) s

/-- `BIT 6,L` (R323). -/
def execBit6L (s : State) : Out State := testBit .n6 (.reg .l) s

/-- `BIT 6,(HL)` (R323). -/
def execBit6IndHl (s : State) : Out State := testBit .n6 .indHl s

/-- `BIT 6,A` (R323). -/
def execBit6A (s : State) : Out State := testBit .n6 (.reg .a) s

/-- `BIT 7,B` (R323). -/
def execBit7B (s : State) : Out State := testBit .n7 (.reg .b) s

/-- `BIT 7,C` (R323). -/
def execBit7C (s : State) : Out State := testBit .n7 (.reg .c) s

/-- `BIT 7,D` (R323). -/
def execBit7D (s : State) : Out State := testBit .n7 (.reg .d) s

/-- `BIT 7,E` (R323). -/
def execBit7E (s : State) : Out State := testBit .n7 (.reg .e) s

/-- `BIT 7,H` (R323). -/
def execBit7H (s : State) : Out State := testBit .n7 (.reg .h) s

/-- `BIT 7,L` (R323). -/
def execBit7L (s : State) : Out State := testBit .n7 (.reg .l) s

/-- `BIT 7,(HL)` (R323). -/
def execBit7IndHl (s : State) : Out State := testBit .n7 .indHl s

/-- `BIT 7,A` (R323). -/
def execBit7A (s : State) : Out State := testBit .n7 (.reg .a) s

/-- `RES 0,B` (R324). -/
def execRes0B (s : State) : Out State := clearBit .n0 (.reg .b) s

/-- `RES 0,C` (R324). -/
def execRes0C (s : State) : Out State := clearBit .n0 (.reg .c) s

/-- `RES 0,D` (R324). -/
def execRes0D (s : State) : Out State := clearBit .n0 (.reg .d) s

/-- `RES 0,E` (R324). -/
def execRes0E (s : State) : Out State := clearBit .n0 (.reg .e) s

/-- `RES 0,H` (R324). -/
def execRes0H (s : State) : Out State := clearBit .n0 (.reg .h) s

/-- `RES 0,L` (R324). -/
def execRes0L (s : State) : Out State := clearBit .n0 (.reg .l) s

/-- `RES 0,(HL)` (R324). -/
def execRes0IndHl (s : State) : Out State := clearBit .n0 .indHl s

/-- `RES 0,A` (R324). -/
def execRes0A (s : State) : Out State := clearBit .n0 (.reg .a) s

/-- `RES 1,B` (R324). -/
def execRes1B (s : State) : Out State := clearBit .n1 (.reg .b) s

/-- `RES 1,C` (R324). -/
def execRes1C (s : State) : Out State := clearBit .n1 (.reg .c) s

/-- `RES 1,D` (R324). -/
def execRes1D (s : State) : Out State := clearBit .n1 (.reg .d) s

/-- `RES 1,E` (R324). -/
def execRes1E (s : State) : Out State := clearBit .n1 (.reg .e) s

/-- `RES 1,H` (R324). -/
def execRes1H (s : State) : Out State := clearBit .n1 (.reg .h) s

/-- `RES 1,L` (R324). -/
def execRes1L (s : State) : Out State := clearBit .n1 (.reg .l) s

/-- `RES 1,(HL)` (R324). -/
def execRes1IndHl (s : State) : Out State := clearBit .n1 .indHl s

/-- `RES 1,A` (R324). -/
def execRes1A (s : State) : Out State := clearBit .n1 (.reg .a) s

/-- `RES 2,B` (R324). -/
def execRes2B (s : State) : Out State := clearBit .n2 (.reg .b) s

/-- `RES 2,C` (R324). -/
def execRes2C (s : State) : Out State := clearBit .n2 (.reg .c) s

/-- `RES 2,D` (R324). -/
def execRes2D (s : State) : Out State := clearBit .n2 (.reg .d) s

/-- `RES 2,E` (R324). -/
def execRes2E (s : State) : Out State := clearBit .n2 (.reg .e) s

/-- `RES 2,H` (R324). -/
def execRes2H (s : State) : Out State := clearBit .n2 (.reg .h) s

/-- `RES 2,L` (R324). -/
def execRes2L (s : State) : Out State := clearBit .n2 (.reg .l) s

/-- `RES 2,(HL)` (R324). -/
def execRes2IndHl (s : State) : Out State := clearBit .n2 .indHl s

/-- `RES 2,A` (R324). -/
def execRes2A (s : State) : Out State := clearBit .n2 (.reg .a) s

/-- `RES 3,B` (R324). -/
def execRes3B (s : State) : Out State := clearBit .n3 (.reg .b) s

/-- `RES 3,C` (R324). -/
def execRes3C (s : State) : Out State := clearBit .n3 (.reg .c) s

/-- `RES 3,D` (R324). -/
def execRes3D (s : State) : Out State := clearBit .n3 (.reg .d) s

/-- `RES 3,E` (R324). -/
def execRes3E (s : State) : Out State := clearBit .n3 (.reg .e) s

/-- `RES 3,H` (R324). -/
def execRes3H (s : State) : Out State := clearBit .n3 (.reg .h) s

/-- `RES 3,L` (R324). -/
def execRes3L (s : State) : Out State := clearBit .n3 (.reg .l) s

/-- `RES 3,(HL)` (R324). -/
def execRes3IndHl (s : State) : Out State := clearBit .n3 .indHl s

/-- `RES 3,A` (R324). -/
def execRes3A (s : State) : Out State := clearBit .n3 (.reg .a) s

/-- `RES 4,B` (R324). -/
def execRes4B (s : State) : Out State := clearBit .n4 (.reg .b) s

/-- `RES 4,C` (R324). -/
def execRes4C (s : State) : Out State := clearBit .n4 (.reg .c) s

/-- `RES 4,D` (R324). -/
def execRes4D (s : State) : Out State := clearBit .n4 (.reg .d) s

/-- `RES 4,E` (R324). -/
def execRes4E (s : State) : Out State := clearBit .n4 (.reg .e) s

/-- `RES 4,H` (R324). -/
def execRes4H (s : State) : Out State := clearBit .n4 (.reg .h) s

/-- `RES 4,L` (R324). -/
def execRes4L (s : State) : Out State := clearBit .n4 (.reg .l) s

/-- `RES 4,(HL)` (R324). -/
def execRes4IndHl (s : State) : Out State := clearBit .n4 .indHl s

/-- `RES 4,A` (R324). -/
def execRes4A (s : State) : Out State := clearBit .n4 (.reg .a) s

/-- `RES 5,B` (R324). -/
def execRes5B (s : State) : Out State := clearBit .n5 (.reg .b) s

/-- `RES 5,C` (R324). -/
def execRes5C (s : State) : Out State := clearBit .n5 (.reg .c) s

/-- `RES 5,D` (R324). -/
def execRes5D (s : State) : Out State := clearBit .n5 (.reg .d) s

/-- `RES 5,E` (R324). -/
def execRes5E (s : State) : Out State := clearBit .n5 (.reg .e) s

/-- `RES 5,H` (R324). -/
def execRes5H (s : State) : Out State := clearBit .n5 (.reg .h) s

/-- `RES 5,L` (R324). -/
def execRes5L (s : State) : Out State := clearBit .n5 (.reg .l) s

/-- `RES 5,(HL)` (R324). -/
def execRes5IndHl (s : State) : Out State := clearBit .n5 .indHl s

/-- `RES 5,A` (R324). -/
def execRes5A (s : State) : Out State := clearBit .n5 (.reg .a) s

/-- `RES 6,B` (R324). -/
def execRes6B (s : State) : Out State := clearBit .n6 (.reg .b) s

/-- `RES 6,C` (R324). -/
def execRes6C (s : State) : Out State := clearBit .n6 (.reg .c) s

/-- `RES 6,D` (R324). -/
def execRes6D (s : State) : Out State := clearBit .n6 (.reg .d) s

/-- `RES 6,E` (R324). -/
def execRes6E (s : State) : Out State := clearBit .n6 (.reg .e) s

/-- `RES 6,H` (R324). -/
def execRes6H (s : State) : Out State := clearBit .n6 (.reg .h) s

/-- `RES 6,L` (R324). -/
def execRes6L (s : State) : Out State := clearBit .n6 (.reg .l) s

/-- `RES 6,(HL)` (R324). -/
def execRes6IndHl (s : State) : Out State := clearBit .n6 .indHl s

/-- `RES 6,A` (R324). -/
def execRes6A (s : State) : Out State := clearBit .n6 (.reg .a) s

/-- `RES 7,B` (R324). -/
def execRes7B (s : State) : Out State := clearBit .n7 (.reg .b) s

/-- `RES 7,C` (R324). -/
def execRes7C (s : State) : Out State := clearBit .n7 (.reg .c) s

/-- `RES 7,D` (R324). -/
def execRes7D (s : State) : Out State := clearBit .n7 (.reg .d) s

/-- `RES 7,E` (R324). -/
def execRes7E (s : State) : Out State := clearBit .n7 (.reg .e) s

/-- `RES 7,H` (R324). -/
def execRes7H (s : State) : Out State := clearBit .n7 (.reg .h) s

/-- `RES 7,L` (R324). -/
def execRes7L (s : State) : Out State := clearBit .n7 (.reg .l) s

/-- `RES 7,(HL)` (R324). -/
def execRes7IndHl (s : State) : Out State := clearBit .n7 .indHl s

/-- `RES 7,A` (R324). -/
def execRes7A (s : State) : Out State := clearBit .n7 (.reg .a) s

/-- `SET 0,B` (R325). -/
def execSet0B (s : State) : Out State := raiseBit .n0 (.reg .b) s

/-- `SET 0,C` (R325). -/
def execSet0C (s : State) : Out State := raiseBit .n0 (.reg .c) s

/-- `SET 0,D` (R325). -/
def execSet0D (s : State) : Out State := raiseBit .n0 (.reg .d) s

/-- `SET 0,E` (R325). -/
def execSet0E (s : State) : Out State := raiseBit .n0 (.reg .e) s

/-- `SET 0,H` (R325). -/
def execSet0H (s : State) : Out State := raiseBit .n0 (.reg .h) s

/-- `SET 0,L` (R325). -/
def execSet0L (s : State) : Out State := raiseBit .n0 (.reg .l) s

/-- `SET 0,(HL)` (R325). -/
def execSet0IndHl (s : State) : Out State := raiseBit .n0 .indHl s

/-- `SET 0,A` (R325). -/
def execSet0A (s : State) : Out State := raiseBit .n0 (.reg .a) s

/-- `SET 1,B` (R325). -/
def execSet1B (s : State) : Out State := raiseBit .n1 (.reg .b) s

/-- `SET 1,C` (R325). -/
def execSet1C (s : State) : Out State := raiseBit .n1 (.reg .c) s

/-- `SET 1,D` (R325). -/
def execSet1D (s : State) : Out State := raiseBit .n1 (.reg .d) s

/-- `SET 1,E` (R325). -/
def execSet1E (s : State) : Out State := raiseBit .n1 (.reg .e) s

/-- `SET 1,H` (R325). -/
def execSet1H (s : State) : Out State := raiseBit .n1 (.reg .h) s

/-- `SET 1,L` (R325). -/
def execSet1L (s : State) : Out State := raiseBit .n1 (.reg .l) s

/-- `SET 1,(HL)` (R325). -/
def execSet1IndHl (s : State) : Out State := raiseBit .n1 .indHl s

/-- `SET 1,A` (R325). -/
def execSet1A (s : State) : Out State := raiseBit .n1 (.reg .a) s

/-- `SET 2,B` (R325). -/
def execSet2B (s : State) : Out State := raiseBit .n2 (.reg .b) s

/-- `SET 2,C` (R325). -/
def execSet2C (s : State) : Out State := raiseBit .n2 (.reg .c) s

/-- `SET 2,D` (R325). -/
def execSet2D (s : State) : Out State := raiseBit .n2 (.reg .d) s

/-- `SET 2,E` (R325). -/
def execSet2E (s : State) : Out State := raiseBit .n2 (.reg .e) s

/-- `SET 2,H` (R325). -/
def execSet2H (s : State) : Out State := raiseBit .n2 (.reg .h) s

/-- `SET 2,L` (R325). -/
def execSet2L (s : State) : Out State := raiseBit .n2 (.reg .l) s

/-- `SET 2,(HL)` (R325). -/
def execSet2IndHl (s : State) : Out State := raiseBit .n2 .indHl s

/-- `SET 2,A` (R325). -/
def execSet2A (s : State) : Out State := raiseBit .n2 (.reg .a) s

/-- `SET 3,B` (R325). -/
def execSet3B (s : State) : Out State := raiseBit .n3 (.reg .b) s

/-- `SET 3,C` (R325). -/
def execSet3C (s : State) : Out State := raiseBit .n3 (.reg .c) s

/-- `SET 3,D` (R325). -/
def execSet3D (s : State) : Out State := raiseBit .n3 (.reg .d) s

/-- `SET 3,E` (R325). -/
def execSet3E (s : State) : Out State := raiseBit .n3 (.reg .e) s

/-- `SET 3,H` (R325). -/
def execSet3H (s : State) : Out State := raiseBit .n3 (.reg .h) s

/-- `SET 3,L` (R325). -/
def execSet3L (s : State) : Out State := raiseBit .n3 (.reg .l) s

/-- `SET 3,(HL)` (R325). -/
def execSet3IndHl (s : State) : Out State := raiseBit .n3 .indHl s

/-- `SET 3,A` (R325). -/
def execSet3A (s : State) : Out State := raiseBit .n3 (.reg .a) s

/-- `SET 4,B` (R325). -/
def execSet4B (s : State) : Out State := raiseBit .n4 (.reg .b) s

/-- `SET 4,C` (R325). -/
def execSet4C (s : State) : Out State := raiseBit .n4 (.reg .c) s

/-- `SET 4,D` (R325). -/
def execSet4D (s : State) : Out State := raiseBit .n4 (.reg .d) s

/-- `SET 4,E` (R325). -/
def execSet4E (s : State) : Out State := raiseBit .n4 (.reg .e) s

/-- `SET 4,H` (R325). -/
def execSet4H (s : State) : Out State := raiseBit .n4 (.reg .h) s

/-- `SET 4,L` (R325). -/
def execSet4L (s : State) : Out State := raiseBit .n4 (.reg .l) s

/-- `SET 4,(HL)` (R325). -/
def execSet4IndHl (s : State) : Out State := raiseBit .n4 .indHl s

/-- `SET 4,A` (R325). -/
def execSet4A (s : State) : Out State := raiseBit .n4 (.reg .a) s

/-- `SET 5,B` (R325). -/
def execSet5B (s : State) : Out State := raiseBit .n5 (.reg .b) s

/-- `SET 5,C` (R325). -/
def execSet5C (s : State) : Out State := raiseBit .n5 (.reg .c) s

/-- `SET 5,D` (R325). -/
def execSet5D (s : State) : Out State := raiseBit .n5 (.reg .d) s

/-- `SET 5,E` (R325). -/
def execSet5E (s : State) : Out State := raiseBit .n5 (.reg .e) s

/-- `SET 5,H` (R325). -/
def execSet5H (s : State) : Out State := raiseBit .n5 (.reg .h) s

/-- `SET 5,L` (R325). -/
def execSet5L (s : State) : Out State := raiseBit .n5 (.reg .l) s

/-- `SET 5,(HL)` (R325). -/
def execSet5IndHl (s : State) : Out State := raiseBit .n5 .indHl s

/-- `SET 5,A` (R325). -/
def execSet5A (s : State) : Out State := raiseBit .n5 (.reg .a) s

/-- `SET 6,B` (R325). -/
def execSet6B (s : State) : Out State := raiseBit .n6 (.reg .b) s

/-- `SET 6,C` (R325). -/
def execSet6C (s : State) : Out State := raiseBit .n6 (.reg .c) s

/-- `SET 6,D` (R325). -/
def execSet6D (s : State) : Out State := raiseBit .n6 (.reg .d) s

/-- `SET 6,E` (R325). -/
def execSet6E (s : State) : Out State := raiseBit .n6 (.reg .e) s

/-- `SET 6,H` (R325). -/
def execSet6H (s : State) : Out State := raiseBit .n6 (.reg .h) s

/-- `SET 6,L` (R325). -/
def execSet6L (s : State) : Out State := raiseBit .n6 (.reg .l) s

/-- `SET 6,(HL)` (R325). -/
def execSet6IndHl (s : State) : Out State := raiseBit .n6 .indHl s

/-- `SET 6,A` (R325). -/
def execSet6A (s : State) : Out State := raiseBit .n6 (.reg .a) s

/-- `SET 7,B` (R325). -/
def execSet7B (s : State) : Out State := raiseBit .n7 (.reg .b) s

/-- `SET 7,C` (R325). -/
def execSet7C (s : State) : Out State := raiseBit .n7 (.reg .c) s

/-- `SET 7,D` (R325). -/
def execSet7D (s : State) : Out State := raiseBit .n7 (.reg .d) s

/-- `SET 7,E` (R325). -/
def execSet7E (s : State) : Out State := raiseBit .n7 (.reg .e) s

/-- `SET 7,H` (R325). -/
def execSet7H (s : State) : Out State := raiseBit .n7 (.reg .h) s

/-- `SET 7,L` (R325). -/
def execSet7L (s : State) : Out State := raiseBit .n7 (.reg .l) s

/-- `SET 7,(HL)` (R325). -/
def execSet7IndHl (s : State) : Out State := raiseBit .n7 .indHl s

/-- `SET 7,A` (R325). -/
def execSet7A (s : State) : Out State := raiseBit .n7 (.reg .a) s

end Sys2Proof.Machine
end

