-- ==== Sys2Proof/Machine/Fetch.lean ====
section
/-! DEFINITION. Fetching an instruction's bytes at PC (00_scope.md R16; 30_encoding.md R194), and placing bytes in memory from outside for the load of a program. -/

namespace Sys2Proof.Machine

/-- `Fetch8()` (R16): read the byte at PC, then increment PC. -/
def fetch8 (s : State) : Out (Byte × State) :=
  andThen (readByte s.pc s) fun r => .next (r.1, { r.2 with pc := r.2.pc + 1#16 })

/-- Fetch the opcode and the operand bytes its length asks for (R192, R194), and decode them. -/
def fetchInstr (s : State) : Out (Instr × State) :=
  andThen (fetch8 s) fun op =>
    match instrLength op.1 with
    | 1 => .next (decodeBytes op.1 0#8 0#8, op.2)
    | 2 => andThen (fetch8 op.2) fun b1 => .next (decodeBytes op.1 b1.1 0#8, b1.2)
    | _ =>
      andThen (fetch8 op.2) fun b1 =>
        andThen (fetch8 b1.2) fun b2 => .next (decodeBytes op.1 b1.1 b2.1, b2.2)

/-- Put a byte into the cartridge where an address of the ROM band shows it, making the image long enough. -/
def placeRom (n : Nat) (v : Byte) (c : Cart) : Cart :=
  let k :=
    match c.variant with
    | .noBanking => n
    | .switchableBanking => if n ≤ 0x3FFF then n else bankedOffset n c
  { c with rom := romSet k v c.rom, romLen := if k < c.romLen then c.romLen else k + 1 }

/-- Put a byte into memory from outside, so that a read of the address gives it: the cartridge image under the
ROM band (the boot overlay off), cartridge RAM enabled, RAM. An I/O register takes what a write gives it, and an
address in no band takes nothing (notes/assumptions/3.md). -/
def placeByte (a : Word) (v : Byte) (s : State) : State :=
  let n := a.toNat
  if n ≤ 0x7FFF then
    { s with cart := placeRom n v s.cart, bootLatch := s.bootLatch || decide (n ≤ 0x00FF) }
  else if n ≤ 0x9FFF then { s with ram := memSet n v s.ram }
  else if n ≤ 0xBFFF then
    { s with cart := { s.cart with ramEnable := true, cram := memSet (cramOffset n s.cart) v s.cart.cram } }
  else if n ≤ 0xDFFF then { s with ram := memSet n v s.ram }
  else if n ≤ 0xFDFF then { s with ram := memSet (n - 0x2000) v s.ram }
  else if n ≤ 0xFE9F then { s with ram := memSet n v s.ram }
  else if n ≤ 0xFEFF then s
  else if n ≤ 0xFF7F then ioWrite v (ioReg n) s
  else if n ≤ 0xFFFE then { s with ram := memSet n v s.ram }
  else { s with intEnable := v.extractLsb' 0 5 }

/-- Put bytes at an address and the ones after it. -/
def placeBytes (a : Word) : List Byte → State → State
  | [], s => s
  | v :: vs, s => placeBytes (a + 1#16) vs (placeByte a v s)

end Sys2Proof.Machine
end

