-- ==== Sys2Proof/Machine/Rotate.lean ====
section
/-! DEFINITION. Rotates and shifts (43_rotate_shift_bit.md R310-R322). -/

namespace Sys2Proof.Machine

/-- An accumulator rotate (R310-R313): Z is 0. -/
def rotateA (op : ShiftOp) (s : State) : Out State :=
  let res := accRotate op s.regs.a s.f
  done 4 { (s.setReg .a res.val) with f := res.f }

/-- A rotate or shift of the extended table (R314-R322): 8 cycles on a register, 16 on (HL). -/
def shiftLoc (op : ShiftOp) (l : Loc) (s : State) : Out State := modifyLoc l (shift8 op) (locCycles l 8 16) s

/-- `RLCA` (R310). -/
def execRlca (s : State) : Out State := rotateA .rlc s

/-- `RRCA` (R311). -/
def execRrca (s : State) : Out State := rotateA .rrc s

/-- `RLA` (R312). -/
def execRla (s : State) : Out State := rotateA .rl s

/-- `RRA` (R313). -/
def execRra (s : State) : Out State := rotateA .rr s

/-- `RLC B` (R315). -/
def execRlcB (s : State) : Out State := shiftLoc .rlc (.reg .b) s

/-- `RLC C` (R315). -/
def execRlcC (s : State) : Out State := shiftLoc .rlc (.reg .c) s

/-- `RLC D` (R315). -/
def execRlcD (s : State) : Out State := shiftLoc .rlc (.reg .d) s

/-- `RLC E` (R315). -/
def execRlcE (s : State) : Out State := shiftLoc .rlc (.reg .e) s

/-- `RLC H` (R315). -/
def execRlcH (s : State) : Out State := shiftLoc .rlc (.reg .h) s

/-- `RLC L` (R315). -/
def execRlcL (s : State) : Out State := shiftLoc .rlc (.reg .l) s

/-- `RLC (HL)` (R315). -/
def execRlcIndHl (s : State) : Out State := shiftLoc .rlc .indHl s

/-- `RLC A` (R315). -/
def execRlcA (s : State) : Out State := shiftLoc .rlc (.reg .a) s

/-- `RRC B` (R316). -/
def execRrcB (s : State) : Out State := shiftLoc .rrc (.reg .b) s

/-- `RRC C` (R316). -/
def execRrcC (s : State) : Out State := shiftLoc .rrc (.reg .c) s

/-- `RRC D` (R316). -/
def execRrcD (s : State) : Out State := shiftLoc .rrc (.reg .d) s

/-- `RRC E` (R316). -/
def execRrcE (s : State) : Out State := shiftLoc .rrc (.reg .e) s

/-- `RRC H` (R316). -/
def execRrcH (s : State) : Out State := shiftLoc .rrc (.reg .h) s

/-- `RRC L` (R316). -/
def execRrcL (s : State) : Out State := shiftLoc .rrc (.reg .l) s

/-- `RRC (HL)` (R316). -/
def execRrcIndHl (s : State) : Out State := shiftLoc .rrc .indHl s

/-- `RRC A` (R316). -/
def execRrcA (s : State) : Out State := shiftLoc .rrc (.reg .a) s

/-- `RL B` (R317). -/
def execRlB (s : State) : Out State := shiftLoc .rl (.reg .b) s

/-- `RL C` (R317). -/
def execRlC (s : State) : Out State := shiftLoc .rl (.reg .c) s

/-- `RL D` (R317). -/
def execRlD (s : State) : Out State := shiftLoc .rl (.reg .d) s

/-- `RL E` (R317). -/
def execRlE (s : State) : Out State := shiftLoc .rl (.reg .e) s

/-- `RL H` (R317). -/
def execRlH (s : State) : Out State := shiftLoc .rl (.reg .h) s

/-- `RL L` (R317). -/
def execRlL (s : State) : Out State := shiftLoc .rl (.reg .l) s

/-- `RL (HL)` (R317). -/
def execRlIndHl (s : State) : Out State := shiftLoc .rl .indHl s

/-- `RL A` (R317). -/
def execRlA (s : State) : Out State := shiftLoc .rl (.reg .a) s

/-- `RR B` (R318). -/
def execRrB (s : State) : Out State := shiftLoc .rr (.reg .b) s

/-- `RR C` (R318). -/
def execRrC (s : State) : Out State := shiftLoc .rr (.reg .c) s

/-- `RR D` (R318). -/
def execRrD (s : State) : Out State := shiftLoc .rr (.reg .d) s

/-- `RR E` (R318). -/
def execRrE (s : State) : Out State := shiftLoc .rr (.reg .e) s

/-- `RR H` (R318). -/
def execRrH (s : State) : Out State := shiftLoc .rr (.reg .h) s

/-- `RR L` (R318). -/
def execRrL (s : State) : Out State := shiftLoc .rr (.reg .l) s

/-- `RR (HL)` (R318). -/
def execRrIndHl (s : State) : Out State := shiftLoc .rr .indHl s

/-- `RR A` (R318). -/
def execRrA (s : State) : Out State := shiftLoc .rr (.reg .a) s

/-- `SLA B` (R319). -/
def execSlaB (s : State) : Out State := shiftLoc .sla (.reg .b) s

/-- `SLA C` (R319). -/
def execSlaC (s : State) : Out State := shiftLoc .sla (.reg .c) s

/-- `SLA D` (R319). -/
def execSlaD (s : State) : Out State := shiftLoc .sla (.reg .d) s

/-- `SLA E` (R319). -/
def execSlaE (s : State) : Out State := shiftLoc .sla (.reg .e) s

/-- `SLA H` (R319). -/
def execSlaH (s : State) : Out State := shiftLoc .sla (.reg .h) s

/-- `SLA L` (R319). -/
def execSlaL (s : State) : Out State := shiftLoc .sla (.reg .l) s

/-- `SLA (HL)` (R319). -/
def execSlaIndHl (s : State) : Out State := shiftLoc .sla .indHl s

/-- `SLA A` (R319). -/
def execSlaA (s : State) : Out State := shiftLoc .sla (.reg .a) s

/-- `SRA B` (R320). -/
def execSraB (s : State) : Out State := shiftLoc .sra (.reg .b) s

/-- `SRA C` (R320). -/
def execSraC (s : State) : Out State := shiftLoc .sra (.reg .c) s

/-- `SRA D` (R320). -/
def execSraD (s : State) : Out State := shiftLoc .sra (.reg .d) s

/-- `SRA E` (R320). -/
def execSraE (s : State) : Out State := shiftLoc .sra (.reg .e) s

/-- `SRA H` (R320). -/
def execSraH (s : State) : Out State := shiftLoc .sra (.reg .h) s

/-- `SRA L` (R320). -/
def execSraL (s : State) : Out State := shiftLoc .sra (.reg .l) s

/-- `SRA (HL)` (R320). -/
def execSraIndHl (s : State) : Out State := shiftLoc .sra .indHl s

/-- `SRA A` (R320). -/
def execSraA (s : State) : Out State := shiftLoc .sra (.reg .a) s

/-- `SWAP B` (R321). -/
def execSwapB (s : State) : Out State := shiftLoc .swap (.reg .b) s

/-- `SWAP C` (R321). -/
def execSwapC (s : State) : Out State := shiftLoc .swap (.reg .c) s

/-- `SWAP D` (R321). -/
def execSwapD (s : State) : Out State := shiftLoc .swap (.reg .d) s

/-- `SWAP E` (R321). -/
def execSwapE (s : State) : Out State := shiftLoc .swap (.reg .e) s

/-- `SWAP H` (R321). -/
def execSwapH (s : State) : Out State := shiftLoc .swap (.reg .h) s

/-- `SWAP L` (R321). -/
def execSwapL (s : State) : Out State := shiftLoc .swap (.reg .l) s

/-- `SWAP (HL)` (R321). -/
def execSwapIndHl (s : State) : Out State := shiftLoc .swap .indHl s

/-- `SWAP A` (R321). -/
def execSwapA (s : State) : Out State := shiftLoc .swap (.reg .a) s

/-- `SRL B` (R322). -/
def execSrlB (s : State) : Out State := shiftLoc .srl (.reg .b) s

/-- `SRL C` (R322). -/
def execSrlC (s : State) : Out State := shiftLoc .srl (.reg .c) s

/-- `SRL D` (R322). -/
def execSrlD (s : State) : Out State := shiftLoc .srl (.reg .d) s

/-- `SRL E` (R322). -/
def execSrlE (s : State) : Out State := shiftLoc .srl (.reg .e) s

/-- `SRL H` (R322). -/
def execSrlH (s : State) : Out State := shiftLoc .srl (.reg .h) s

/-- `SRL L` (R322). -/
def execSrlL (s : State) : Out State := shiftLoc .srl (.reg .l) s

/-- `SRL (HL)` (R322). -/
def execSrlIndHl (s : State) : Out State := shiftLoc .srl .indHl s

/-- `SRL A` (R322). -/
def execSrlA (s : State) : Out State := shiftLoc .srl (.reg .a) s

end Sys2Proof.Machine
end

