-- ==== Sys2Proof/Machine/System.lean ====
section
/-! DEFINITION. No-op, low power, interrupt enable, the extended-table byte, illegal opcodes (45_system.md). -/

namespace Sys2Proof.Machine

/-- `IE & IF & 0x1F` (60_exceptions.md R420). -/
def pendingIrqs (s : State) : BitVec 5 := s.intEnable &&& s.intFlag

/-- `HALT` (R381): a fault where IME is clear and an enabled request is pending (60_exceptions.md R402). -/
def halt (s : State) : Out State :=
  if s.ime = false ∧ pendingIrqs s ≠ 0#5 then raise (.unmodelledHaltBug s.pc) s
  else done 4 { s with halted := true }

/-- `STOP` (R382): the second byte is ignored. -/
def stop (_ignored : Byte) (s : State) : Out State :=
  done 4 { s with stopped := true, timer := { s.timer with div := 0#8, divAcc := 0 } }

/-- `DI` and `EI` (R383, R384): they overwrite the pending change. -/
def setImePending (p : ImePending) (s : State) : Out State := done 4 { s with imePending := p }

/-- An illegal opcode (R386): the pc is the address after the opcode byte. -/
def illegal (op : Byte) (s : State) : Out State := raise (.unimplementedOpcode op s.pc) s

/-- The operation of the extended row for `op2` (R385; 43_rotate_shift_bit.md R314-R325). -/
def extendedRow (op2 : Byte) (s : State) : Out State :=
  let y := op2.toNat / 8 % 8
  let l := locOf (op2.toNat % 8)
  match op2.toNat / 64 with
  | 0 => shiftLoc (shiftOf y) l s
  | 1 => testBit (octOf y) l s
  | 2 => clearBit (octOf y) l s
  | _ => raiseBit (octOf y) l s

/-- `PREFIX CB` (R385): fetch the second byte, then the operation of its row (notes/assumptions/11.md). -/
def extended (s : State) : Out State := andThen (fetch8 s) fun r => extendedRow r.1 r.2

/-- `NOP` (R380). -/
def execNop (s : State) : Out State := done 4 s

/-- `STOP` (R382). -/
def execStop (v : Byte) (s : State) : Out State := stop v s

/-- `HALT` (R381). -/
def execHalt (s : State) : Out State := halt s

/-- `PREFIX CB` (R385). -/
def execPrefixCb (s : State) : Out State := extended s

/-- `ILLEGAL_D3` (R386). -/
def execIllegalD3 (s : State) : Out State := illegal 0xD3#8 s

/-- `ILLEGAL_DB` (R386). -/
def execIllegalDB (s : State) : Out State := illegal 0xDB#8 s

/-- `ILLEGAL_DD` (R386). -/
def execIllegalDD (s : State) : Out State := illegal 0xDD#8 s

/-- `ILLEGAL_E3` (R386). -/
def execIllegalE3 (s : State) : Out State := illegal 0xE3#8 s

/-- `ILLEGAL_E4` (R386). -/
def execIllegalE4 (s : State) : Out State := illegal 0xE4#8 s

/-- `ILLEGAL_EB` (R386). -/
def execIllegalEB (s : State) : Out State := illegal 0xEB#8 s

/-- `ILLEGAL_EC` (R386). -/
def execIllegalEC (s : State) : Out State := illegal 0xEC#8 s

/-- `ILLEGAL_ED` (R386). -/
def execIllegalED (s : State) : Out State := illegal 0xED#8 s

/-- `DI` (R383). -/
def execDi (s : State) : Out State := setImePending .disable2 s

/-- `ILLEGAL_F4` (R386). -/
def execIllegalF4 (s : State) : Out State := illegal 0xF4#8 s

/-- `EI` (R384). -/
def execEi (s : State) : Out State := setImePending .enable2 s

/-- `ILLEGAL_FC` (R386). -/
def execIllegalFC (s : State) : Out State := illegal 0xFC#8 s

/-- `ILLEGAL_FD` (R386). -/
def execIllegalFD (s : State) : Out State := illegal 0xFD#8 s

end Sys2Proof.Machine
end

