-- ==== Sys2Proof/Machine/Interrupts.lean ====
section
/-! DEFINITION. The InterruptController: the pending IME change and the service step (60_exceptions.md section 3). -/

namespace Sys2Proof.Machine

/-- `apply_pending()` (R424). -/
def applyPending (s : State) : State :=
  match s.imePending with
  | .none => s
  | .enable2 => { s with imePending := .enable1 }
  | .disable2 => { s with imePending := .disable1 }
  | .enable1 => { s with ime := true, imePending := .none }
  | .disable1 => { s with ime := false, imePending := .none }

/-- The least `j` with `pend[j] = 1` (R420, R426). -/
def firstIrq (pend : BitVec 5) : Option Irq :=
  if pend.getLsbD 0 then some .verticalBlank
  else if pend.getLsbD 1 then some .displayStatus
  else if pend.getLsbD 2 then some .timerOverflow
  else if pend.getLsbD 3 then some .serial
  else if pend.getLsbD 4 then some .inputEdge
  else none

/-- `apply_clear_policy(ime0)` (R421), by the parameter `IF_CLEAR_POLICY`. -/
def applyClearPolicy (ime0 : Bool) (s : State) : State :=
  match s.params.ifClearPolicy with
  | .retain => s
  | .clearUnenabledWhenMasked => if ime0 then s else { s with intFlag := s.intFlag &&& s.intEnable }
  | .clearAllEveryCall => { s with intFlag := 0#5 }

/-- Leave `STOP` when the input edge is requested (R423). -/
def wakeStopped (s : State) : State :=
  if s.stopped ∧ s.intFlag.getLsbD 4 then { s with stopped := false } else s

/-- Leave `HALT` when an enabled request is pending, whatever IME is (R422). -/
def wakeHalted (s : State) : State :=
  if s.halted ∧ pendingIrqs s ≠ 0#5 then { s with halted := false } else s

/-- Dispatch the first enabled request if IME is set (R420, R425): the cycles and the state. -/
def dispatchFirst (s : State) : Out (Nat × State) :=
  if s.ime then
    match firstIrq (pendingIrqs s) with
    | none => .next (0, s)
    | some k => andThen (dispatchIrq k s) fun t => .next (20, t)
  else .next (0, s)

/-- `service()` (R420): the cycles it consumed, 20 or 0, and the state. -/
def service (s : State) : Out (Nat × State) :=
  let s1 := wakeStopped s
  if s1.stopped then .next (0, applyClearPolicy s.ime s1)
  else
    andThen (dispatchFirst (wakeHalted s1)) fun r => .next (r.1, applyClearPolicy s.ime r.2)

end Sys2Proof.Machine
end

