-- ==== Sys2Proof/Machine/Timers.lean ====
section
/-! DEFINITION. The TimerUnit: divider and counter (60_exceptions.md section 4). -/

namespace Sys2Proof.Machine

/-- `tick_divider(c)` (R440): every 256 cycles DIV goes up by one, the residual carries forward. -/
def tickDivider (c : Nat) (s : State) : State :=
  let acc := s.timer.divAcc + c
  { s with
    timer := { s.timer with divAcc := acc % 256, div := s.timer.div + BitVec.ofNat 8 (acc / 256) } }

/-- The rate TAC bits 1..0 select (10_state.md R55). -/
def timerRate (tac : BitVec 3) : Nat :=
  match tac.toNat % 4 with
  | 0 => 1024
  | 1 => 16
  | 2 => 64
  | _ => 256

/-- `n` increments of TIMA, each past 0xFF a reload from TMA (R442): the value and whether one overflowed. -/
def countUp (tma : Byte) : Nat → Byte → Bool → Byte × Bool
  | 0, tima, ovf => (tima, ovf)
  | n + 1, tima, ovf => if tima = 0xFF#8 then countUp tma n tma true else countUp tma n (tima + 1#8) ovf

/-- `tick_counter(c)` (R442): the overflow and the state. -/
def tickCounter (c : Nat) (s : State) : Bool × State :=
  if s.timer.tac.getLsbD 2 then
    let rate := timerRate s.timer.tac
    let acc := s.timer.timaAcc + c
    let r := countUp s.timer.tma (acc / rate) s.timer.tima false
    (r.2, { s with timer := { s.timer with timaAcc := acc % rate, tima := r.1 } })
  else (false, s)

/-- The scheduler's `if tick_counter(c): IF[2] <- 1` (R443, R450). -/
def tickCounterRequest (c : Nat) (s : State) : State :=
  let r := tickCounter c s
  if r.1 then { r.2 with intFlag := r.2.intFlag ||| Irq.timerOverflow.mask } else r.2

end Sys2Proof.Machine
end

