-- ==== Sys2Proof/Machine/Scheduler.lean ====
section
/-! DEFINITION. The InstructionEngine's `execute_one` (30_encoding.md R194) and the FrameScheduler (60_exceptions.md section 5). -/

namespace Sys2Proof.Machine

/-- `execute_one()` (R194): fetch and decode, then the instruction's meaning. `cycles` holds the count it returns. -/
def executeOne (s : State) : Out State := andThen (fetchInstr s) fun r => exec r.1 r.2

/-- A halted or stopped iteration (R452): 4 cycles, no fetch; the divider counts them only by the parameter. -/
def idle (s : State) : State :=
  let t := { s with cycles := 4 }
  if s.params.divTicksWhenHalted then tickDivider 4 t else t

/-- The part of an iteration between the service step and the counter (R450). -/
def runOrIdle (s : State) : Out State :=
  if s.halted = false ∧ s.stopped = false then
    andThen (executeOne s) fun t => .next (tickDivider t.cycles t)
  else .next (idle s)

/-- The end of an iteration of `c` cycles (R450): counter, pixel tick, frame total (R451). -/
def endIteration (c : Nat) (s : State) : State :=
  let t := pixelTick (tickCounterRequest c s)
  { t with frameTotal := t.frameTotal + c }

/-- "The core never takes another step" (R405; 10_state.md R62): a faulted core answers its fault, with the state
as it is; any other core does `k` (notes/assumptions/10.md). -/
def unlessFaulted {α : Type} (k : State → Out α) (s : State) : Out α :=
  match s.fault with
  | some r => .fault (faultOf r s)
  | none => k s

/-- The body of an iteration (R450). -/
def iterationBody (s : State) : Out State :=
  andThen (service (applyPending s)) fun r =>
    andThen (runOrIdle r.2) fun t => .next (endIteration (r.1 + t.cycles) t)

/-- One iteration of the scheduler loop (R450); a faulted core runs none (R405). -/
def iteration (s : State) : Out State := unlessFaulted iterationBody s

/-- One iteration, then the input collaborator (R462, which acts between iterations). -/
def iterationThenInput (s : State) : Out State := andThen (iteration s) fun t => .next (inputTick t)

/-- The host's next `run_frame(FRAME_CYCLES)` (R451, R463): where the last frame's budget is spent the total starts at 0. -/
def beginFrame (s : State) : State :=
  if s.params.frameCycles ≤ s.frameTotal then { s with frameTotal := 0 } else s

/-- The loop of `run_frame` (R451), at most `fuel` iterations of it. -/
def frameLoop : Nat → Nat → State → Out State
  | 0, _, s => .next s
  | fuel + 1, target, s =>
    if s.frameTotal < target then andThen (iterationThenInput s) (frameLoop fuel target) else .next s

/-- `run_frame(target)` (R451): an iteration takes at least one cycle, so `target` of them are enough. A faulted
core answers its fault (R405). -/
def runFrame (target : Nat) (s : State) : Out State :=
  unlessFaulted (fun t => frameLoop target target { t with frameTotal := 0 }) s

/-- PC at the next fetch: the service step may dispatch first (R450). -/
def fetchPc (s : State) : Word :=
  match service (applyPending s) with
  | .next r => r.2.pc
  | .fault _ => s.pc
  | .refused _ => s.pc

/-- A state whose next step fetches: it is neither faulted, halted nor stopped, and its frame holds an iteration. -/
def awake (s : State) : State :=
  { s with
    fault := none
    halted := false
    stopped := false
    params := { s.params with frameCycles := max 1 s.params.frameCycles } }

/-- The test of the loop of `run_frame(FRAME_CYCLES)` (R451), and the iteration where it holds. -/
def frameStep (s : State) : Out State :=
  if s.frameTotal < s.params.frameCycles then iterationThenInput s else .next s

/-- A core step: the host loop's next `run_frame` where the last one has ended (R463), then one round of its loop.
With FRAME_CYCLES = 0 that is a whole `run_frame(0)`, which runs no iteration (R451). A faulted core takes no step
(R405; 10_state.md R62; notes/assumptions/9.md). -/
def coreStep (s : State) : Out State := unlessFaulted (fun t => frameStep (beginFrame t)) s

/-- The bytes of a table word, and bytes of zero up to the longest instruction. -/
def tableWordInMemory (nbits w : Nat) : List Byte := (tableBytes nbits w ++ [0#8, 0#8, 0#8]).take 3

/-- A table word's bytes placed where the next iteration fetches (notes/assumptions/3.md). -/
def loadTableWord (nbits w : Nat) (s : State) : State :=
  placeBytes (fetchPc (awake s)) (tableWordInMemory nbits w) (awake s)

end Sys2Proof.Machine
end

