-- ==== Sys2Proof/Machine/Session.lean ====
section
/-! DEFINITION. A session: the loader, construction, power_up and the host loop, in the order of 70_reset_and_hazards.md R482 (60_exceptions.md R461, R463). -/

namespace Sys2Proof.Machine

/-- The start of a session (R480, R481): the loader on `CART_IMAGE` under `CART_TYPE_MAP`, then construction with
the parameters of the run, then `power_up` once with `POST_BOOT_REGS` and `POST_BOOT_IO`. Where the load fails there
is no core (60_exceptions.md R404). -/
def startSession (types : CartTypeMap) (v : PostBoot) (params : Params) (img : List Byte) : Except LoadError State :=
  match load types img with
  | .error e => .error e
  | .ok cart => .ok (powerUp v (State.constructed cart params))

/-- The host loop (60_exceptions.md R463): `run_frame(FRAME_CYCLES)`, `frames` times, unless a fault ends it. -/
def hostLoop : Nat → State → Out State
  | 0, s => .next s
  | frames + 1, s => andThen (runFrame s.params.frameCycles s) (hostLoop frames)

/-- A session (R482): load, construct, `power_up`, then the host loop until the host stops, here after `frames`
calls, or a fault ends it. -/
def runSession (types : CartTypeMap) (v : PostBoot) (params : Params) (img : List Byte) (frames : Nat) :
    Except LoadError (Out State) :=
  match startSession types v params img with
  | .error e => .error e
  | .ok s => .ok (hostLoop frames s)

/-- `k` steps of the machine, unless a fault ends them. -/
def steps : Nat → State → Out State
  | 0, s => .next s
  | k + 1, s => andThen (step s) (steps k)

/-- The `CART_IMAGE` of the reset state: 32 KiB of zeros (95_test_vectors.md 1.9; notes/assumptions/3.md). -/
def resetImage : List Byte := List.replicate 0x8000 0x00#8

end Sys2Proof.Machine
end

