-- ==== Sys2Proof/Safety.lean ====
section
/-! DEFINITION. The terms claims are stated in: which addresses exist, what a store can change, the field numbers of the encoding, the invariant of the core, a safe step. -/

namespace Sys2Proof.Machine

/-- An address in some band; 0xFEA0-0xFEFF is in none (20_memory.md R101). -/
def mapped (a : Word) : Bool := decide (a.toNat < 0xFEA0) || decide (0xFEFF < a.toNat)

/-- Plain storage: VRAM, WRAM and its echo, OAM, HRAM (R100, R107, R109). -/
def plainRam (a : Word) : Bool :=
  (decide (0x8000 ≤ a.toNat) && decide (a.toNat ≤ 0x9FFF)) || (decide (0xC000 ≤ a.toNat) && decide (a.toNat ≤ 0xFE9F)) ||
    (decide (0xFF80 ≤ a.toNat) && decide (a.toNat ≤ 0xFFFE))

/-- The key of a plain byte: its own address, and for an echo address the WRAM address it mirrors (R107). -/
def ramKey (a : Word) : Nat :=
  if 0xE000 ≤ a.toNat ∧ a.toNat ≤ 0xFDFF then a.toNat - 0x2000 else a.toNat

/-- A key a RAM may list (10_state.md R57). -/
def isRamKey (k : Nat) : Bool :=
  (decide (0x8000 ≤ k) && decide (k ≤ 0x9FFF)) || (decide (0xC000 ≤ k) && decide (k ≤ 0xDFFF)) ||
    (decide (0xFE00 ≤ k) && decide (k ≤ 0xFE9F)) || (decide (0xFF80 ≤ k) && decide (k ≤ 0xFFFE))

/-- A store to `a` may change what a read of `a'` gives: the same byte, under its own or its echo address
(R107); the windows a switchable-banking register moves (R160-R163, 70_reset_and_hazards.md R496); the boot
overlay (R130). -/
def disturbs (s : State) (a a' : Word) : Bool :=
  decide (ramKey a = ramKey a') ||
    (decide (s.cart.variant = .switchableBanking) && decide (a.toNat ≤ 0x7FFF) &&
      ((decide (0x4000 ≤ a'.toNat) && decide (a'.toNat ≤ 0x7FFF)) ||
        (decide (0xA000 ≤ a'.toNat) && decide (a'.toNat ≤ 0xBFFF)))) ||
    (decide (a.toNat = 0xFF50) && decide (a'.toNat ≤ 0x00FF))

/-- The two stack bytes a push writes (40_loads.md R222). -/
def pushSlots (s : State) : List Word := [s.sp - 1#16, s.sp - 2#16]

/-- The byte the extended row of `PREFIX CB` stores to: (HL) for every row but `BIT` (45_system.md R385). -/
def extendedTargets (s : State) : List Word :=
  match peek (Config.freeByte s.draws) s.pc s with
  | none => []
  | some op2 => if op2.toNat % 8 = 6 ∧ op2.toNat / 64 ≠ 1 then [s.hl] else []

/-- The addresses an instruction stores to (20_memory.md R103). `STOP` clears DIV, the byte at 0xFF04 (45_system.md R382). -/
def storeTargets (i : Instr) (s : State) : List Word :=
  match i with
  | .ldIndBcA => [s.bc]
  | .ldIndA16Sp v => [v, v + 1#16]
  | .stop _ => [0xFF04#16]
  | .ldIndDeA => [s.de]
  | .ldIndHlIncA => [s.hl]
  | .ldIndHlDecA => [s.hl]
  | .incIndHl => [s.hl]
  | .decIndHl => [s.hl]
  | .ldIndHlD8 _ => [s.hl]
  | .ldIndHlB => [s.hl]
  | .ldIndHlC => [s.hl]
  | .ldIndHlD => [s.hl]
  | .ldIndHlE => [s.hl]
  | .ldIndHlH => [s.hl]
  | .ldIndHlL => [s.hl]
  | .ldIndHlA => [s.hl]
  | .callNzA16 _ => if condHolds .nz s.f then pushSlots s else []
  | .pushBc => pushSlots s
  | .rst00 => pushSlots s
  | .prefixCb => extendedTargets s
  | .callZA16 _ => if condHolds .z s.f then pushSlots s else []
  | .callA16 _ => pushSlots s
  | .rst08 => pushSlots s
  | .callNcA16 _ => if condHolds .nc s.f then pushSlots s else []
  | .pushDe => pushSlots s
  | .rst10 => pushSlots s
  | .callCA16 _ => if condHolds .c s.f then pushSlots s else []
  | .rst18 => pushSlots s
  | .ldhIndA8A v => [highPage v]
  | .ldIndCA => [highPage s.regs.c]
  | .pushHl => pushSlots s
  | .rst20 => pushSlots s
  | .ldIndA16A v => [v]
  | .rst28 => pushSlots s
  | .pushAf => pushSlots s
  | .rst30 => pushSlots s
  | .rst38 => pushSlots s
  | .rlcIndHl => [s.hl]
  | .rrcIndHl => [s.hl]
  | .rlIndHl => [s.hl]
  | .rrIndHl => [s.hl]
  | .slaIndHl => [s.hl]
  | .sraIndHl => [s.hl]
  | .swapIndHl => [s.hl]
  | .srlIndHl => [s.hl]
  | .res0IndHl => [s.hl]
  | .res1IndHl => [s.hl]
  | .res2IndHl => [s.hl]
  | .res3IndHl => [s.hl]
  | .res4IndHl => [s.hl]
  | .res5IndHl => [s.hl]
  | .res6IndHl => [s.hl]
  | .res7IndHl => [s.hl]
  | .set0IndHl => [s.hl]
  | .set1IndHl => [s.hl]
  | .set2IndHl => [s.hl]
  | .set3IndHl => [s.hl]
  | .set4IndHl => [s.hl]
  | .set5IndHl => [s.hl]
  | .set6IndHl => [s.hl]
  | .set7IndHl => [s.hl]
  | _ => []

/-! ### The numbers of the encoding fields, for the encodings claims write out -/

/-- R183's number of a register. -/
def regCode : Reg8 → Nat
  | .b => 0 | .c => 1 | .d => 2 | .e => 3 | .h => 4 | .l => 5 | .a => 7

/-- R183's number of a location. -/
def locCode : Loc → Nat
  | .reg r => regCode r
  | .indHl => 6

/-- R184's number of a pair of `rp`. -/
def rpCode : Rp → Nat
  | .bc => 0 | .de => 1 | .hl => 2 | .sp => 3

/-- R184's number of a pair of `rp2`. -/
def rp2Code : Rp2 → Nat
  | .bc => 0 | .de => 1 | .hl => 2 | .af => 3

/-- R185's number of a condition. -/
def condCode : Cond → Nat
  | .nz => 0 | .z => 1 | .nc => 2 | .c => 3

/-- R186's number of an ALU operation. -/
def aluCode : AluOp → Nat
  | .add => 0 | .adc => 1 | .sub => 2 | .sbc => 3 | .and => 4 | .xor => 5 | .or => 6 | .cp => 7

/-- R186's number of a rotate or shift. -/
def shiftCode : ShiftOp → Nat
  | .rlc => 0 | .rrc => 1 | .rl => 2 | .rr => 3 | .sla => 4 | .sra => 5 | .swap => 6 | .srl => 7

/-! ### Invariants -/

/-- What every state of a running core satisfies: memories in canonical form and within their sizes
(10_state.md R57, R60), a cartridge the loader accepts (20_memory.md R150), `rom_low` never 0 (R60, R161), the
RAM bank 0 in ROM mode (R163), the divider's accumulator under its threshold (10_state.md R55), never both halted
and stopped, and no fault (R62). -/
structure State.Inv (s : State) : Prop where
  ramWf : Memory.wf s.ram = true
  ramKeys : s.ram.all (fun cell => isRamKey cell.1) = true
  cramWf : Memory.wf s.cart.cram = true
  cramKeys : s.cart.cram.all (fun cell => decide (cell.1 < 0x8000)) = true
  romWf : Memory.wfRom s.cart.rom s.cart.romLen = true
  romMin : 0x148 ≤ s.cart.romLen
  romMax : s.cart.romLen ≤ romLimit s.cart.variant
  romLow : s.cart.romLow ≠ 0#5
  romMode : s.cart.mode = false → s.cart.ramBank = 0#2
  divAcc : s.timer.divAcc < 256
  oneSleep : ¬(s.halted = true ∧ s.stopped = true)
  noFault : s.fault = none

/-- A step that neither faults nor is refused. -/
def State.stepsSafely (s : State) : Prop := ∃ t, step s = .next t

end Sys2Proof.Machine
end

