-- ==== Sys2Proof/Certificates/Slice0/Obligations.lean ====
section
/-! DEFINITION. The statements for the provers. Each docstring names the rules of spec/ its statement formalises; a statement that rests on a decision of the spec (92_eei_decisions.md), on an inference the spec marks as derived, or on the model's own log says so. Encodings, cycle counts and the parts of flags that 40_loads.md to 45_system.md mark 'from general knowledge, not in source' are the rules' own words, and the statements follow them (00_scope.md R19). -/

namespace Sys2Proof.Claims

open Sys2Proof.Machine

/-! ### The shapes statements share -/

/-- The fault an access to an address in no band raises, with the state it leaves (20_memory.md R101;
60_exceptions.md R401, R405; decisions D18, D31; notes/assumptions/10.md). -/
def addressFault (a : Word) (access : Access) (s : State) : Out State :=
  .fault (.unimplementedAddress a access s.pc { s with fault := some (.unimplementedAddress a access s.pc) })

/-- An instruction that reads the byte at `a` and then does `g` with it: it completes where `a` is in a band,
and faults on the read with nothing changed where it is in none. The draw that fills undriven bits, and its count,
are the model's form of 00_scope.md R17 (notes/assumptions/2.md). -/
def ReadsThen (i : Instr) (s : State) (a : Word) (g : Byte → State → State) : Prop :=
  (mapped a = true →
    ∃ v, peek (Config.freeByte s.draws) a s = some v ∧ exec i s = .next (g v { s with draws := s.draws + 1 })) ∧
  (mapped a = false → exec i s = addressFault a .read s)

/-- An instruction that stores `v` at `a` and then does `g`: the same two cases. -/
def WritesThen (i : Instr) (s : State) (a : Word) (v : Byte) (g : State → State) : Prop :=
  (mapped a = true → ∃ w, writeByte a v s = .next w ∧ exec i s = .next (g w)) ∧
  (mapped a = false → exec i s = addressFault a .write s)

/-- An instruction that reads the byte at HL, writes `res` of it back, and leaves the flags `fl` of it. -/
def ModifiesThen (i : Instr) (s : State) (res : Byte → Byte) (fl : Byte → Flags) (n : Nat) : Prop :=
  (mapped s.hl = true →
    ∃ v w, peek (Config.freeByte s.draws) s.hl s = some v ∧
      writeByte s.hl (res v) { s with draws := s.draws + 1 } = .next w ∧
      exec i s = .next { w with f := fl v, cycles := n }) ∧
  (mapped s.hl = false → exec i s = addressFault s.hl .read s)

/-- What pushing `v` and then doing `g` answers (40_loads.md R222): the high byte at SP - 1, then the low byte
at SP - 2. A fault on either byte leaves what came before it (60_exceptions.md R405). -/
def PushesThen (answer : Out State) (s : State) (v : Word) (g : State → State) : Prop :=
  (mapped (s.sp - 1#16) = true → mapped (s.sp - 2#16) = true →
    ∃ w1 w2, writeByte (s.sp - 1#16) (hiByte v) { s with sp := s.sp - 1#16 } = .next w1 ∧
      writeByte (s.sp - 2#16) (loByte v) { w1 with sp := s.sp - 2#16 } = .next w2 ∧ answer = .next (g w2)) ∧
  (mapped (s.sp - 1#16) = false → answer = addressFault (s.sp - 1#16) .write { s with sp := s.sp - 1#16 }) ∧
  (mapped (s.sp - 1#16) = true → mapped (s.sp - 2#16) = false →
    ∃ w1, writeByte (s.sp - 1#16) (hiByte v) { s with sp := s.sp - 1#16 } = .next w1 ∧
      answer = addressFault (s.sp - 2#16) .write { w1 with sp := s.sp - 2#16 })

/-- An instruction that pops a word and then does `g` with it (R223): the low byte at SP, then the high byte at SP +
1. -/
def PopsThen (i : Instr) (s : State) (g : Word → State → State) : Prop :=
  (mapped s.sp = true → mapped (s.sp + 1#16) = true →
    ∃ lo hi, peek (Config.freeByte s.draws) s.sp s = some lo ∧
      peek (Config.freeByte (s.draws + 1)) (s.sp + 1#16) s = some hi ∧
      exec i s = .next (g (wordOf hi lo) { s with sp := s.sp + 2#16, draws := s.draws + 2 })) ∧
  (mapped s.sp = false → exec i s = addressFault s.sp .read s) ∧
  (mapped s.sp = true → mapped (s.sp + 1#16) = false →
    exec i s = addressFault (s.sp + 1#16) .read { s with sp := s.sp + 1#16, draws := s.draws + 1 })

/-- An operation of the 8-bit ALU in its three source forms (41_alu8.md R250): A takes `res` of the source, the
flags take `fl` of it. -/
def AluRuns (op : AluOp) (res : Byte → State → Byte) (fl : Byte → State → Flags) : Prop :=
  ∀ s : State,
    (∀ r, encode (.ofAlu op (.reg r)) = [BitVec.ofNat 8 (0x80 + 8 * aluCode op + regCode r)] ∧
      exec (.ofAlu op (.reg r)) s =
        .next { s with regs := { s.regs with a := res (s.regs.get r) s }, f := fl (s.regs.get r) s, cycles := 4 }) ∧
    (encode (.ofAlu op .indHl) = [BitVec.ofNat 8 (0x86 + 8 * aluCode op)] ∧
      ReadsThen (.ofAlu op .indHl) s s.hl fun v t =>
        { t with regs := { t.regs with a := res v s }, f := fl v s, cycles := 8 }) ∧
    (∀ d8, encode (.ofAlu op (.imm d8)) = [BitVec.ofNat 8 (0xC6 + 8 * aluCode op), d8] ∧
      exec (.ofAlu op (.imm d8)) s =
        .next { s with regs := { s.regs with a := res d8 s }, f := fl d8 s, cycles := 8 })

/-- An instruction that reads and writes one of the eight locations (41_alu8.md R259-R262; 43_rotate_shift_bit.md
R314): `bytes` gives its encoding from the location's number. -/
def LocRuns (mk : Loc → Instr) (bytes : Nat → List Byte) (res : Byte → Flags → Byte) (fl : Byte → Flags → Flags)
    (onReg onMem : Nat) : Prop :=
  ∀ s : State,
    (∀ r, encode (mk (.reg r)) = bytes (regCode r) ∧
      exec (mk (.reg r)) s =
        .next { s with
          regs := s.regs.set r (res (s.regs.get r) s.f), f := fl (s.regs.get r) s.f, cycles := onReg }) ∧
    (encode (mk .indHl) = bytes 6 ∧
      ModifiesThen (mk .indHl) s (fun v => res v s.f) (fun v => fl v s.f) onMem)

/-- The condition of R185: NZ is Z = 0, Z is Z = 1, NC is Cf = 0, C is Cf = 1. -/
def Taken (cc : Cond) (f : Flags) : Prop :=
  match cc with
  | .nz => f.z = false
  | .z => f.z = true
  | .nc => f.c = false
  | .c => f.c = true

/-- `(pc + sext_16(e)) mod 2^16` (44_control.md R354). -/
def relative (pc : Word) (e : Byte) : Word := BitVec.ofInt 16 ((pc.toNat : Int) + e.toInt)

/-- The result of a rotate or shift as a number, `cf` being the old carry (43_rotate_shift_bit.md R315-R322). -/
def shifted (op : ShiftOp) (v cf : Nat) : Nat :=
  match op with
  | .rlc => (2 * v + v / 128) % 256
  | .rrc => v / 2 + 128 * (v % 2)
  | .rl => (2 * v + cf) % 256
  | .rr => v / 2 + 128 * cf
  | .sla => 2 * v % 256
  | .sra => v / 2 + 128 * (v / 128)
  | .swap => 16 * (v % 16) + v / 16
  | .srl => v / 2

/-- The carry a rotate or shift leaves (R315-R322). -/
def shiftedOut (op : ShiftOp) (v : Nat) : Bool :=
  match op with
  | .rlc => decide (128 ≤ v)
  | .rrc => decide (v % 2 = 1)
  | .rl => decide (128 ≤ v)
  | .rr => decide (v % 2 = 1)
  | .sla => decide (128 ≤ v)
  | .sra => decide (v % 2 = 1)
  | .swap => false
  | .srl => decide (v % 2 = 1)

/-- The value decimal adjust leaves, step by step on numbers (41_alu8.md R263). -/
def adjusted (a : Nat) (n h c : Bool) : Nat :=
  if n = false then
    let a1 := if c = true ∨ a > 0x99 then (a + 0x60) % 256 else a
    if h = true ∨ a1 % 16 > 0x09 then (a1 + 0x06) % 256 else a1
  else
    let a1 := if c = true then (a + 256 - 0x60) % 256 else a
    if h = true then (a1 + 256 - 0x06) % 256 else a1

/-- Two decimal digits in a byte. -/
def bcd (n : Nat) : Byte := BitVec.ofNat 8 (16 * (n / 10) + n % 10)

/-- The flag byte of R42. -/
def flagByte (f : Flags) : Nat := 128 * bitNat f.z + 64 * bitNat f.n + 32 * bitNat f.h + 16 * bitNat f.c

/-- `apply_clear_policy(ime0)` (60_exceptions.md R421). -/
def afterPolicy (ime0 : Bool) (s : State) : State :=
  match s.params.ifClearPolicy with
  | .retain => s
  | .clearUnenabledWhenMasked => if ime0 = false then { s with intFlag := s.intFlag &&& s.intEnable } else s
  | .clearAllEveryCall => { s with intFlag := 0#5 }

/-- The addresses of R120's table. -/
def knownIo : List Nat :=
  [0xFF00, 0xFF01, 0xFF02, 0xFF04, 0xFF05, 0xFF06, 0xFF07, 0xFF0F, 0xFF40, 0xFF41, 0xFF42, 0xFF43, 0xFF44, 0xFF47,
    0xFF48, 0xFF49, 0xFF50]

/-- The addresses whose cells stand in the I/O record of the state. -/
def ioCells : List Nat :=
  [0xFF00, 0xFF01, 0xFF02, 0xFF40, 0xFF41, 0xFF42, 0xFF43, 0xFF47, 0xFF48, 0xFF49]

/-- A read of `a` gives a byte with these fields. -/
def Reads (d : Byte) (a : Word) (s : State) (p : Byte → Prop) : Prop := ∃ v, peek d a s = some v ∧ p v

end Sys2Proof.Claims

open Sys2Proof Sys2Proof.Machine Sys2Proof.Claims

/-! ### Registers -/

/-- 10_state.md R40, R41, R42 (decision D3: the flag byte): a written register reads back and no other changes; a
pair is its two halves, both ways; F keeps its high nibble and reads zero below it. -/
def Obligations.RegistersPairsAndFlagByteReadBack : Prop :=
  (∀ (r r' : Reg8) (v : Byte) (x : Regs), (x.set r v).get r' = if r' = r then v else x.get r') ∧
  (∀ hi lo : Byte, hiByte (wordOf hi lo) = hi ∧ loByte (wordOf hi lo) = lo ∧
    (wordOf hi lo).toNat = hi.toNat * 256 + lo.toNat) ∧
  (∀ v : Word, wordOf (hiByte v) (loByte v) = v) ∧
  (∀ (p p' : Rp) (v : Word) (s : State), (s.setPair p v).pair p' = if p' = p then v else s.pair p') ∧
  (∀ f : Flags, f.toByte.toNat = flagByte f ∧ Flags.ofByte f.toByte = f) ∧
  (∀ v : Byte, (Flags.ofByte v).toByte = v &&& 0xF0#8)

/-! ### Loads, stores and the stack -/

/-- 40_loads.md R200, R203, R219, R221: the loads that touch registers only. -/
def Obligations.RegisterAndPairLoads : Prop :=
  ∀ s : State,
    (∀ dst src, encode (.ofLd dst src) = [BitVec.ofNat 8 (0x40 + 8 * regCode dst + regCode src)] ∧
      exec (.ofLd dst src) s = .next { s with regs := s.regs.set dst (s.regs.get src), cycles := 4 }) ∧
    (∀ dst d8, encode (.ofLdImm dst d8) = [BitVec.ofNat 8 (0x06 + 8 * regCode dst), d8] ∧
      exec (.ofLdImm dst d8) s = .next { s with regs := s.regs.set dst d8, cycles := 8 }) ∧
    (∀ p d16, encode (.ofLdPair p d16) = [BitVec.ofNat 8 (0x01 + 16 * rpCode p), loByte d16, hiByte d16] ∧
      exec (.ofLdPair p d16) s = .next { s.setPair p d16 with cycles := 12 }) ∧
    encode .ldSpHl = [0xF9#8] ∧ exec .ldSpHl s = .next { s with sp := wordOf s.regs.h s.regs.l, cycles := 8 }

/-- 40_loads.md R201, R202, R204: the loads and stores through HL. -/
def Obligations.LoadsAndStoresThroughHl : Prop :=
  ∀ s : State,
    (∀ dst, encode (.ofLdInd dst) = [BitVec.ofNat 8 (0x46 + 8 * regCode dst)] ∧
      ReadsThen (.ofLdInd dst) s s.hl fun v t => { t with regs := t.regs.set dst v, cycles := 8 }) ∧
    (∀ src, encode (.ofStInd src) = [BitVec.ofNat 8 (0x70 + regCode src)] ∧
      WritesThen (.ofStInd src) s s.hl (s.regs.get src) fun w => { w with cycles := 8 }) ∧
    (∀ d8, encode (.ldIndHlD8 d8) = [0x36#8, d8] ∧
      WritesThen (.ldIndHlD8 d8) s s.hl d8 fun w => { w with cycles := 12 })

/-- 40_loads.md R205, R206, R209, R210: A from the byte at BC, DE, or HL with HL moved after. -/
def Obligations.LoadAThroughPairs : Prop :=
  ∀ s : State,
    encode (.ofLdPtr .bc) = [0x0A#8] ∧ encode (.ofLdPtr .de) = [0x1A#8] ∧
    encode (.ofLdPtr .hlInc) = [0x2A#8] ∧ encode (.ofLdPtr .hlDec) = [0x3A#8] ∧
    (ReadsThen (.ofLdPtr .bc) s s.bc fun v t => { t with regs := { t.regs with a := v }, cycles := 8 }) ∧
    (ReadsThen (.ofLdPtr .de) s s.de fun v t => { t with regs := { t.regs with a := v }, cycles := 8 }) ∧
    (ReadsThen (.ofLdPtr .hlInc) s s.hl fun v t =>
      { t with
        regs := { t.regs with a := v, h := hiByte (s.hl + 1#16), l := loByte (s.hl + 1#16) }, cycles := 8 }) ∧
    (ReadsThen (.ofLdPtr .hlDec) s s.hl fun v t =>
      { t with
        regs := { t.regs with a := v, h := hiByte (s.hl - 1#16), l := loByte (s.hl - 1#16) }, cycles := 8 })

/-- 40_loads.md R207, R208, R211, R212: A stored at BC, DE, or HL with HL moved after. -/
def Obligations.StoreAThroughPairs : Prop :=
  ∀ s : State,
    encode (.ofStPtr .bc) = [0x02#8] ∧ encode (.ofStPtr .de) = [0x12#8] ∧
    encode (.ofStPtr .hlInc) = [0x22#8] ∧ encode (.ofStPtr .hlDec) = [0x32#8] ∧
    (WritesThen (.ofStPtr .bc) s s.bc s.regs.a fun w => { w with cycles := 8 }) ∧
    (WritesThen (.ofStPtr .de) s s.de s.regs.a fun w => { w with cycles := 8 }) ∧
    (WritesThen (.ofStPtr .hlInc) s s.hl s.regs.a fun w =>
      { w with regs := { s.regs with h := hiByte (s.hl + 1#16), l := loByte (s.hl + 1#16) }, cycles := 8 }) ∧
    (WritesThen (.ofStPtr .hlDec) s s.hl s.regs.a fun w =>
      { w with regs := { s.regs with h := hiByte (s.hl - 1#16), l := loByte (s.hl - 1#16) }, cycles := 8 })

/-- 40_loads.md R213-R218: A to and from the high page and an absolute address. The high page has no unmapped
address. -/
def Obligations.HighPageAndAbsoluteTransfers : Prop :=
  ∀ (s : State) (a8 : Byte) (a16 : Word),
    (wordOf 0xFF#8 a8).toNat = 0xFF00 + a8.toNat ∧ mapped (wordOf 0xFF#8 a8) = true ∧
    encode (.ldhIndA8A a8) = [0xE0#8, a8] ∧ encode (.ldhAIndA8 a8) = [0xF0#8, a8] ∧
    encode .ldIndCA = [0xE2#8] ∧ encode .ldAIndC = [0xF2#8] ∧
    encode (.ldIndA16A a16) = [0xEA#8, loByte a16, hiByte a16] ∧
    encode (.ldAIndA16 a16) = [0xFA#8, loByte a16, hiByte a16] ∧
    (WritesThen (.ldhIndA8A a8) s (wordOf 0xFF#8 a8) s.regs.a fun w => { w with cycles := 12 }) ∧
    (ReadsThen (.ldhAIndA8 a8) s (wordOf 0xFF#8 a8) fun v t =>
      { t with regs := { t.regs with a := v }, cycles := 12 }) ∧
    (WritesThen .ldIndCA s (wordOf 0xFF#8 s.regs.c) s.regs.a fun w => { w with cycles := 8 }) ∧
    (ReadsThen .ldAIndC s (wordOf 0xFF#8 s.regs.c) fun v t =>
      { t with regs := { t.regs with a := v }, cycles := 8 }) ∧
    (WritesThen (.ldIndA16A a16) s a16 s.regs.a fun w => { w with cycles := 16 }) ∧
    (ReadsThen (.ldAIndA16 a16) s a16 fun v t => { t with regs := { t.regs with a := v }, cycles := 16 })

/-- 40_loads.md R220 (decision D27: the byte order): the low byte of SP at a16, then the high byte at a16 + 1; a fault
on the second leaves the first (60_exceptions.md R405). -/
def Obligations.StoreStackPointerLowByteFirst : Prop :=
  ∀ (s : State) (a16 : Word),
    encode (.ldIndA16Sp a16) = [0x08#8, loByte a16, hiByte a16] ∧
    (mapped a16 = true → mapped (a16 + 1#16) = true →
      ∃ w1 w2, writeByte a16 (loByte s.sp) s = .next w1 ∧ writeByte (a16 + 1#16) (hiByte s.sp) w1 = .next w2 ∧
        exec (.ldIndA16Sp a16) s = .next { w2 with cycles := 20 }) ∧
    (mapped a16 = false → exec (.ldIndA16Sp a16) s = addressFault a16 .write s) ∧
    (mapped a16 = true → mapped (a16 + 1#16) = false →
      ∃ w1, writeByte a16 (loByte s.sp) s = .next w1 ∧
        exec (.ldIndA16Sp a16) s = addressFault (a16 + 1#16) .write w1)

/-- 40_loads.md R224, R225 (decision D3: the flag byte's low nibble): `PUSH`, AF as A and the flag byte. -/
def Obligations.PushInstructions : Prop :=
  ∀ s : State,
    (∀ p, encode (.ofPush p) = [BitVec.ofNat 8 (0xC5 + 16 * rp2Code p)]) ∧
    PushesThen (exec (.ofPush .bc) s) s (wordOf s.regs.b s.regs.c) (fun t => { t with cycles := 16 }) ∧
    PushesThen (exec (.ofPush .de) s) s (wordOf s.regs.d s.regs.e) (fun t => { t with cycles := 16 }) ∧
    PushesThen (exec (.ofPush .hl) s) s (wordOf s.regs.h s.regs.l) (fun t => { t with cycles := 16 }) ∧
    PushesThen (exec (.ofPush .af) s) s (wordOf s.regs.a (BitVec.ofNat 8 (flagByte s.f)))
      (fun t => { t with cycles := 16 })

/-- 40_loads.md R226, R227 (decision D3: the low nibble discarded): `POP`, AF with bits 3..0 of the popped byte
discarded. -/
def Obligations.PopInstructions : Prop :=
  ∀ s : State,
    (∀ p, encode (.ofPop p) = [BitVec.ofNat 8 (0xC1 + 16 * rp2Code p)]) ∧
    PopsThen (.ofPop .bc) s (fun v t => { t with regs := { t.regs with b := hiByte v, c := loByte v }, cycles := 12 }) ∧
    PopsThen (.ofPop .de) s (fun v t => { t with regs := { t.regs with d := hiByte v, e := loByte v }, cycles := 12 }) ∧
    PopsThen (.ofPop .hl) s (fun v t => { t with regs := { t.regs with h := hiByte v, l := loByte v }, cycles := 12 }) ∧
    PopsThen (.ofPop .af) s (fun v t =>
      { t with
        regs := { t.regs with a := hiByte v }
        f := { z := v.getLsbD 7, n := v.getLsbD 6, h := v.getLsbD 5, c := v.getLsbD 4 }
        cycles := 12 })

/-- 40_loads.md R222, R223: the order of a push, and a push then a pop through plain storage gives the word and SP back
(the proviso is the spec's own inference, marked derived in R223). -/
def Obligations.PushOrderAndPushPopRoundTrip : Prop :=
  ∀ (s : State) (v : Word),
    PushesThen (push16 v s) s v id ∧
    (plainRam (s.sp - 1#16) = true → plainRam (s.sp - 2#16) = true →
      ∃ w, push16 v s = .next w ∧ w.sp = s.sp - 2#16 ∧
        (∀ d, peek d w.sp w = some (loByte v)) ∧ (∀ d, peek d (w.sp + 1#16) w = some (hiByte v)) ∧
        pop16 w = .next (v, { w with sp := s.sp, draws := w.draws + 2 }))

/-! ### 8-bit arithmetic -/

/-- 41_alu8.md R250, R251, R252: `ADD` and `ADC` in every source form. -/
def Obligations.AddAndAddWithCarry : Prop :=
  AluRuns .add (fun v s => BitVec.ofNat 8 (s.regs.a.toNat + v.toNat))
    (fun v s =>
      { z := decide ((s.regs.a.toNat + v.toNat) % 256 = 0)
        n := false
        h := decide (s.regs.a.toNat % 16 + v.toNat % 16 > 0x0F)
        c := decide (s.regs.a.toNat + v.toNat > 0xFF) }) ∧
  AluRuns .adc (fun v s => BitVec.ofNat 8 (s.regs.a.toNat + v.toNat + bitNat s.f.c))
    (fun v s =>
      { z := decide ((s.regs.a.toNat + v.toNat + bitNat s.f.c) % 256 = 0)
        n := false
        h := decide (s.regs.a.toNat % 16 + v.toNat % 16 + bitNat s.f.c > 0x0F)
        c := decide (s.regs.a.toNat + v.toNat + bitNat s.f.c > 0xFF) })

/-- 41_alu8.md R250, R253, R254, R258: `SUB`, `SBC` and `CP`, on exact integers. -/
def Obligations.SubtractAndCompare : Prop :=
  AluRuns .sub (fun v s => BitVec.ofInt 8 ((s.regs.a.toNat : Int) - v.toNat))
    (fun v s =>
      { z := decide (((s.regs.a.toNat : Int) - v.toNat) % 256 = 0)
        n := true
        h := decide (s.regs.a.toNat % 16 < v.toNat % 16)
        c := decide (s.regs.a.toNat < v.toNat) }) ∧
  AluRuns .sbc (fun v s => BitVec.ofInt 8 ((s.regs.a.toNat : Int) - v.toNat - bitNat s.f.c))
    (fun v s =>
      { z := decide (((s.regs.a.toNat : Int) - v.toNat - bitNat s.f.c) % 256 = 0)
        n := true
        h := decide (s.regs.a.toNat % 16 < v.toNat % 16 + bitNat s.f.c)
        c := decide (s.regs.a.toNat < v.toNat + bitNat s.f.c) }) ∧
  AluRuns .cp (fun _ s => s.regs.a)
    (fun v s =>
      { z := decide (((s.regs.a.toNat : Int) - v.toNat) % 256 = 0)
        n := true
        h := decide (s.regs.a.toNat % 16 < v.toNat % 16)
        c := decide (s.regs.a.toNat < v.toNat) })

/-- 41_alu8.md R250, R255, R256, R257: `AND`, `XOR`, `OR`. -/
def Obligations.BitwiseLogic : Prop :=
  AluRuns .and (fun v s => s.regs.a &&& v)
    (fun v s => { z := decide ((s.regs.a &&& v) = 0#8), n := false, h := true, c := false }) ∧
  AluRuns .xor (fun v s => s.regs.a ^^^ v)
    (fun v s => { z := decide ((s.regs.a ^^^ v) = 0#8), n := false, h := false, c := false }) ∧
  AluRuns .or (fun v s => s.regs.a ||| v)
    (fun v s => { z := decide ((s.regs.a ||| v) = 0#8), n := false, h := false, c := false })

/-- 41_alu8.md R259-R262: 8-bit `INC` and `DEC`, register and (HL). -/
def Obligations.IncrementAndDecrementBytes : Prop :=
  LocRuns .ofInc (fun k => [BitVec.ofNat 8 (0x04 + 8 * k)]) (fun o _ => BitVec.ofNat 8 (o.toNat + 1))
    (fun o f => { z := decide ((o.toNat + 1) % 256 = 0), n := false, h := decide (o.toNat % 16 = 0x0F), c := f.c }) 4 12 ∧
  LocRuns .ofDec (fun k => [BitVec.ofNat 8 (0x05 + 8 * k)]) (fun o _ => BitVec.ofNat 8 (o.toNat + 255))
    (fun o f => { z := decide (o.toNat = 1), n := true, h := decide (o.toNat % 16 = 0x00), c := f.c }) 4 12

/-- 41_alu8.md R263: `DAA` on every A and every flags. -/
def Obligations.DecimalAdjustSteps : Prop :=
  ∀ s : State,
    encode .daa = [0x27#8] ∧
    exec .daa s =
      .next { s with
        regs := { s.regs with a := BitVec.ofNat 8 (adjusted s.regs.a.toNat s.f.n s.f.h s.f.c) }
        f :=
          { z := decide (adjusted s.regs.a.toNat s.f.n s.f.h s.f.c = 0)
            n := s.f.n
            h := false
            c := s.f.c || (!s.f.n && decide (s.regs.a.toNat > 0x99)) }
        cycles := 4 }

/-- An inference from 41_alu8.md R251, R253, R263 together: two-digit decimal sums and differences come out decimal,
with Cf the decimal carry or borrow. -/
def Obligations.DecimalAdjustMakesDecimalSums : Prop :=
  ∀ (s : State) (m n : Nat), m < 100 → n < 100 → s.regs.a = bcd m →
    (∃ t u, exec (.addAD8 (bcd n)) s = .next t ∧ exec .daa t = .next u ∧
      u.regs.a = bcd ((m + n) % 100) ∧ u.f.c = decide (100 ≤ m + n)) ∧
    (∃ t u, exec (.subD8 (bcd n)) s = .next t ∧ exec .daa t = .next u ∧
      u.regs.a = bcd ((m + 100 - n) % 100) ∧ u.f.c = decide (m < n))

/-- 41_alu8.md R264, R265, R266: `CPL`, `SCF`, `CCF`. -/
def Obligations.ComplementAndCarryFlag : Prop :=
  ∀ s : State,
    encode .cpl = [0x2F#8] ∧ encode .scf = [0x37#8] ∧ encode .ccf = [0x3F#8] ∧
    exec .cpl s =
      .next { s with
        regs := { s.regs with a := BitVec.ofNat 8 (255 - s.regs.a.toNat) }
        f := { s.f with n := true, h := true }
        cycles := 4 } ∧
    exec .scf s = .next { s with f := { z := s.f.z, n := false, h := false, c := true }, cycles := 4 } ∧
    exec .ccf s = .next { s with f := { z := s.f.z, n := false, h := false, c := !s.f.c }, cycles := 4 }

/-! ### 16-bit arithmetic -/

/-- 42_alu16.md R290, R291: 16-bit `INC` and `DEC`; no flag changes. -/
def Obligations.IncrementAndDecrementPairs : Prop :=
  ∀ (s : State) (p : Rp),
    encode (.ofIncPair p) = [BitVec.ofNat 8 (0x03 + 16 * rpCode p)] ∧
    encode (.ofDecPair p) = [BitVec.ofNat 8 (0x0B + 16 * rpCode p)] ∧
    exec (.ofIncPair p) s = .next { s.setPair p (BitVec.ofNat 16 ((s.pair p).toNat + 1)) with cycles := 8 } ∧
    exec (.ofDecPair p) s = .next { s.setPair p (BitVec.ofNat 16 ((s.pair p).toNat + 65535)) with cycles := 8 }

/-- 42_alu16.md R292 (decision D2: Z kept), R293, R294: `ADD HL,rr` with Z kept; `ADD SP,e` and `LD HL,SP+e` with
their flags from the low byte. -/
def Obligations.SixteenBitAdds : Prop :=
  ∀ s : State,
    (∀ p, encode (.ofAddHl p) = [BitVec.ofNat 8 (0x09 + 16 * rpCode p)] ∧
      exec (.ofAddHl p) s =
        .next { s with
          regs :=
            { s.regs with
              h := hiByte (BitVec.ofNat 16 (s.hl.toNat + (s.pair p).toNat))
              l := loByte (BitVec.ofNat 16 (s.hl.toNat + (s.pair p).toNat)) }
          f :=
            { z := s.f.z
              n := false
              h := decide (s.hl.toNat % 0x1000 + (s.pair p).toNat % 0x1000 > 0x0FFF)
              c := decide (s.hl.toNat + (s.pair p).toNat > 0xFFFF) }
          cycles := 8 }) ∧
    (∀ e : Byte, encode (.addSpE8 e) = [0xE8#8, e] ∧ encode (.ldHlSpE8 e) = [0xF8#8, e] ∧
      exec (.addSpE8 e) s =
        .next { s with
          sp := relative s.sp e
          f :=
            { z := false
              n := false
              h := decide (s.sp.toNat % 16 + e.toNat % 16 > 0x0F)
              c := decide (s.sp.toNat % 256 + e.toNat > 0xFF) }
          cycles := 16 } ∧
      exec (.ldHlSpE8 e) s =
        .next { s with
          regs := { s.regs with h := hiByte (relative s.sp e), l := loByte (relative s.sp e) }
          f :=
            { z := false
              n := false
              h := decide (s.sp.toNat % 16 + e.toNat % 16 > 0x0F)
              c := decide (s.sp.toNat % 256 + e.toNat > 0xFF) }
          cycles := 12 })

/-! ### Rotates, shifts, bits -/

/-- 43_rotate_shift_bit.md R310-R313: the accumulator rotates always clear Z. -/
def Obligations.AccumulatorRotates : Prop :=
  ∀ s : State,
    encode .rlca = [0x07#8] ∧ encode .rrca = [0x0F#8] ∧ encode .rla = [0x17#8] ∧ encode .rra = [0x1F#8] ∧
    ∀ i op, (i, op) ∈ [(Instr.rlca, ShiftOp.rlc), (.rrca, .rrc), (.rla, .rl), (.rra, .rr)] →
      exec i s =
        .next { s with
          regs := { s.regs with a := BitVec.ofNat 8 (shifted op s.regs.a.toNat (bitNat s.f.c)) }
          f := { z := false, n := false, h := false, c := shiftedOut op s.regs.a.toNat }
          cycles := 4 }

/-- 43_rotate_shift_bit.md R314-R322: the eight rotates and shifts of the extended table on all eight locations. -/
def Obligations.ExtendedRotatesAndShifts : Prop :=
  ∀ op : ShiftOp,
    LocRuns (.ofShift op) (fun k => [0xCB#8, BitVec.ofNat 8 (8 * shiftCode op + k)])
      (fun v f => BitVec.ofNat 8 (shifted op v.toNat (bitNat f.c)))
      (fun v f =>
        { z := decide (shifted op v.toNat (bitNat f.c) = 0), n := false, h := false, c := shiftedOut op v.toNat })
      8 16

/-- 43_rotate_shift_bit.md R323, R324, R325: `BIT`, `RES`, `SET` for every bit and location. -/
def Obligations.BitTestResetAndSet : Prop :=
  ∀ b : Oct,
    (∀ s : State,
      (∀ r, encode (.ofBit b (.reg r)) = [0xCB#8, BitVec.ofNat 8 (0x40 + 8 * b.val + regCode r)] ∧
        exec (.ofBit b (.reg r)) s =
          .next { s with
            f := { z := decide ((s.regs.get r).toNat / 2 ^ b.val % 2 = 0), n := false, h := true, c := s.f.c }
            cycles := 8 }) ∧
      encode (.ofBit b .indHl) = [0xCB#8, BitVec.ofNat 8 (0x46 + 8 * b.val)] ∧
      ReadsThen (.ofBit b .indHl) s s.hl fun v t =>
        { t with f := { z := decide (v.toNat / 2 ^ b.val % 2 = 0), n := false, h := true, c := s.f.c }, cycles := 12 }) ∧
    LocRuns (.ofRes b) (fun k => [0xCB#8, BitVec.ofNat 8 (0x80 + 8 * b.val + k)])
      (fun v _ => BitVec.ofNat 8 (v.toNat - 2 ^ b.val * (v.toNat / 2 ^ b.val % 2))) (fun _ f => f) 8 16 ∧
    LocRuns (.ofSet b) (fun k => [0xCB#8, BitVec.ofNat 8 (0xC0 + 8 * b.val + k)])
      (fun v _ => BitVec.ofNat 8 (v.toNat + 2 ^ b.val * (1 - v.toNat / 2 ^ b.val % 2))) (fun _ f => f) 8 16

/-! ### Control -/

/-- 44_control.md R351, R353, R354: the jumps. -/
def Obligations.UnconditionalJumps : Prop :=
  ∀ (s : State) (a16 : Word) (e : Byte),
    encode (.jpA16 a16) = [0xC3#8, loByte a16, hiByte a16] ∧ encode .jpHl = [0xE9#8] ∧ encode (.jrE8 e) = [0x18#8, e] ∧
    exec (.jpA16 a16) s = .next { s with pc := a16, cycles := 16 } ∧
    exec .jpHl s = .next { s with pc := wordOf s.regs.h s.regs.l, cycles := 4 } ∧
    exec (.jrE8 e) s = .next { s with pc := relative s.pc e, cycles := 12 }

/-- 44_control.md R352, R355: the conditional jumps; one not taken leaves PC after the instruction's bytes. -/
def Obligations.ConditionalJumps : Prop :=
  ∀ (s : State) (cc : Cond) (a16 : Word) (e : Byte),
    encode (.ofJp cc a16) = [BitVec.ofNat 8 (0xC2 + 8 * condCode cc), loByte a16, hiByte a16] ∧
    encode (.ofJr cc e) = [BitVec.ofNat 8 (0x20 + 8 * condCode cc), e] ∧
    (Taken cc s.f → exec (.ofJp cc a16) s = .next { s with pc := a16, cycles := 16 } ∧
      exec (.ofJr cc e) s = .next { s with pc := relative s.pc e, cycles := 12 }) ∧
    (¬Taken cc s.f → exec (.ofJp cc a16) s = .next { s with cycles := 12 } ∧
      exec (.ofJr cc e) s = .next { s with cycles := 8 })

/-- 44_control.md R356, R357, R361: calls and restarts push the address after the instruction. -/
def Obligations.CallsAndRestarts : Prop :=
  ∀ (s : State) (a16 : Word),
    encode (.callA16 a16) = [0xCD#8, loByte a16, hiByte a16] ∧
    PushesThen (exec (.callA16 a16) s) s s.pc (fun t => { t with pc := a16, cycles := 24 }) ∧
    (∀ y : Oct, encode (.ofRst y) = [BitVec.ofNat 8 (0xC7 + 8 * y.val)] ∧
      PushesThen (exec (.ofRst y) s) s s.pc (fun t => { t with pc := BitVec.ofNat 16 (8 * y.val), cycles := 16 })) ∧
    (∀ cc : Cond, encode (.ofCall cc a16) = [BitVec.ofNat 8 (0xC4 + 8 * condCode cc), loByte a16, hiByte a16] ∧
      (Taken cc s.f →
        PushesThen (exec (.ofCall cc a16) s) s s.pc (fun t => { t with pc := a16, cycles := 24 })) ∧
      (¬Taken cc s.f → exec (.ofCall cc a16) s = .next { s with cycles := 12 }))

/-- 44_control.md R358, R359, R360 (decision D7: IME at once): the returns; `RETI` sets IME at once and cancels a
pending change. -/
def Obligations.Returns : Prop :=
  ∀ s : State,
    encode .ret = [0xC9#8] ∧ encode .reti = [0xD9#8] ∧
    PopsThen .ret s (fun v t => { t with pc := v, cycles := 16 }) ∧
    PopsThen .reti s (fun v t => { t with pc := v, ime := true, imePending := .none, cycles := 16 }) ∧
    (∀ cc : Cond, encode (.ofRet cc) = [BitVec.ofNat 8 (0xC0 + 8 * condCode cc)] ∧
      (Taken cc s.f → PopsThen (.ofRet cc) s (fun v t => { t with pc := v, cycles := 20 })) ∧
      (¬Taken cc s.f → exec (.ofRet cc) s = .next { s with cycles := 8 }))

/-! ### System -/

/-- 45_system.md R380, R383, R384: `NOP`, `DI` and `EI` (the delay of `DI` is the spec's decision D6). -/
def Obligations.NoOpAndInterruptEnable : Prop :=
  ∀ s : State,
    encode .nop = [0x00#8] ∧ encode .di = [0xF3#8] ∧ encode .ei = [0xFB#8] ∧
    exec .nop s = .next { s with cycles := 4 } ∧
    exec .di s = .next { s with imePending := .disable2, cycles := 4 } ∧
    exec .ei s = .next { s with imePending := .enable2, cycles := 4 }

/-- 45_system.md R382 (decision D10): `STOP` ignores its second byte, stops the core and clears the divider. -/
def Obligations.StopClearsTheDivider : Prop :=
  ∀ (s : State) (b : Byte),
    encode (.stop b) = [0x10#8, b] ∧
    exec (.stop b) s =
      .next { s with stopped := true, timer := { s.timer with div := 0#8, divAcc := 0 }, cycles := 4 }

/-- 45_system.md R381, 60_exceptions.md R402 (decisions D8, D9): `HALT` waits, and faults where IME is clear and an
enabled request is pending; that fault is the spec's own. -/
def Obligations.HaltWaitsOrFaults : Prop :=
  ∀ s : State,
    encode .halt = [0x76#8] ∧
    (s.ime = true ∨ s.intEnable &&& s.intFlag = 0#5 → exec .halt s = .next { s with halted := true, cycles := 4 }) ∧
    (s.ime = false → s.intEnable &&& s.intFlag ≠ 0#5 →
      exec .halt s = .fault (.unmodelledHaltBug s.pc { s with fault := some (.unmodelledHaltBug s.pc) }))

/-- 45_system.md R386, 60_exceptions.md R400 (decision D4): the eleven illegal opcodes always fault. -/
def Obligations.IllegalOpcodesFault : Prop :=
  (∀ (s : State) (op : IllegalOp),
    encode (.ofIllegal op) = [op.byte] ∧
    exec (.ofIllegal op) s =
      .fault (.unimplementedOpcode op.byte s.pc { s with fault := some (.unimplementedOpcode op.byte s.pc) })) ∧
  (∀ v : Byte, (∃ op : IllegalOp, op.byte = v) ↔
    v ∈ [0xD3#8, 0xDB#8, 0xDD#8, 0xE3#8, 0xE4#8, 0xEB#8, 0xEC#8, 0xED#8, 0xF4#8, 0xFC#8, 0xFD#8])

/-- 45_system.md R385 (decision D36): `PREFIX CB` fetches the second byte and runs that byte's extended row; it
completes where the second byte and HL are in bands. -/
def Obligations.PrefixRunsTheExtendedRow : Prop :=
  ∀ s : State,
    encode .prefixCb = [0xCB#8] ∧
    (∀ v, peek (Config.freeByte s.draws) s.pc s = some v →
      exec .prefixCb s = exec (decodeCb v) { s with pc := s.pc + 1#16, draws := s.draws + 1 }) ∧
    (mapped s.pc = false → exec .prefixCb s = addressFault s.pc .read s) ∧
    (mapped s.pc = true → mapped s.hl = true →
      ∃ v t, peek (Config.freeByte s.draws) s.pc s = some v ∧ exec .prefixCb s = .next t ∧
        t.pc = s.pc + 1#16 ∧ t.sp = s.sp)

/-! ### Encoding and decoding -/

/-- Words written out from the encodings of 40_loads.md to 45_system.md (decision D2: the SM83 maps) decode to their
instructions. -/
def Obligations.WrittenWordsDecode : Prop :=
  decode [0b01000001#8] = .ok (.ldBC, []) ∧
  decode [0b00000110#8, 0x05#8] = .ok (.ldBD8 0x05#8, []) ∧
  decode [0b00110001#8, 0xFF#8, 0xDF#8] = .ok (.ldSpD16 0xDFFF#16, []) ∧
  decode [0b11110101#8] = .ok (.pushAf, []) ∧
  decode [0b10011100#8] = .ok (.sbcAH, []) ∧
  decode [0b11101110#8, 0x0F#8] = .ok (.xorD8 0x0F#8, []) ∧
  decode [0b00101001#8] = .ok (.addHlHl, []) ∧
  decode [0b11001011#8, 0b01100101#8] = .ok (.bit4L, []) ∧
  decode [0b11001011#8, 0b00110111#8] = .ok (.swapA, []) ∧
  decode [0b00100000#8, 0xFE#8] = .ok (.jrNzE8 0xFE#8, []) ∧
  decode [0b11010100#8, 0x00#8, 0x20#8] = .ok (.callNcA16 0x2000#16, []) ∧
  decode [0b11101111#8] = .ok (.rst28, []) ∧
  decode [0b01110110#8] = .ok (.halt, []) ∧
  decode [0b11010011#8] = .ok (.illegalD3, [])

/-- Decoding the bytes of a whole instruction gives it back, with every operand at every value, whatever follows
(30_encoding.md R180-R192; decision D2: the SM83 maps). -/
def Obligations.DecodeOfEncode : Prop :=
  ∀ (i : Instr) (rest : List Byte), i.wellFormed = true → decode (encode i ++ rest) = .ok (i, rest)

/-- 30_encoding.md R190, R192 (decisions D2, D4): every byte sequence of three or more decodes, to an instruction
whose bytes are those taken, and how many are taken is told by the first byte alone. -/
def Obligations.EveryByteSequenceDecodes : Prop :=
  (∀ (op b1 b2 : Byte) (rest : List Byte),
    ∃ i, decode (op :: b1 :: b2 :: rest) = .ok (i, (op :: b1 :: b2 :: rest).drop (instrLength op))) ∧
  (∀ (bs : List Byte) (i : Instr) (rest : List Byte), decode bs = .ok (i, rest) → bs = encode i ++ rest)

/-- A step runs the decoded instruction (30_encoding.md R194; 60_exceptions.md R450). Around it stand the frame
boundary (notes/assumptions/9.md), the pending IME change, the service step, the divider, the counter, the pixel
tick, the frame total and the input collaborator's step (notes/assumptions/8.md). With FRAME_CYCLES = 0 the host never
asks for an iteration (SessionIsARunOfSteps says what a step is there). -/
def Obligations.StepRunsTheDecodedInstruction : Prop :=
  ∀ (s u : State) (c : Nat) (i : Instr) (bs : List Byte),
    s.fault = none → 0 < s.params.frameCycles → service (applyPending (beginFrame s)) = .next (c, u) → u.halted = false → u.stopped = false →
    i.wellFormed = true → decode bs = .ok (i, []) →
    (∀ k, k < bs.length → peek (Config.freeByte (u.draws + k)) (u.pc + BitVec.ofNat 16 k) u = bs[k]?) →
    step s =
      andThen (exec i { u with pc := u.pc + BitVec.ofNat 16 bs.length, draws := u.draws + bs.length })
        fun t => .next (inputTick (endIteration (c + t.cycles) (tickDivider t.cycles t)))

/-! ### Memory -/

/-- 20_memory.md R101 (decision D18): an access to 0xFEA0-0xFEFF faults, read or write, and no other access does. -/
def Obligations.OnlyTheUnmappedRangeFaults : Prop :=
  ∀ (a : Word) (v : Byte) (s : State),
    (0xFEA0 ≤ a.toNat ∧ a.toNat ≤ 0xFEFF →
      readByte a s =
        .fault (.unimplementedAddress a .read s.pc { s with fault := some (.unimplementedAddress a .read s.pc) }) ∧
      writeByte a v s = addressFault a .write s) ∧
    (a.toNat < 0xFEA0 ∨ 0xFEFF < a.toNat →
      (∃ b, readByte a s = .next (b, { s with draws := s.draws + 1 })) ∧ ∃ w, writeByte a v s = .next w)

/-- 20_memory.md R100, R107, R109 (decisions D18, D19: the gap, the echo's mapping): VRAM, WRAM, OAM and HRAM give
back the byte stored, and a WRAM byte is the same byte under its echo address. -/
def Obligations.PlainStorageReadsBack : Prop :=
  ∀ (a : Word) (v d : Byte) (s : State),
    (0x8000 ≤ a.toNat ∧ a.toNat ≤ 0x9FFF) ∨ (0xC000 ≤ a.toNat ∧ a.toNat ≤ 0xFE9F) ∨
      (0xFF80 ≤ a.toNat ∧ a.toNat ≤ 0xFFFE) →
    ∃ w, writeByte a v s = .next w ∧ peek d a w = some v ∧
      (0xC000 ≤ a.toNat → a.toNat ≤ 0xDDFF → peek d (a + 0x2000#16) w = some v) ∧
      (0xE000 ≤ a.toNat → a.toNat ≤ 0xFDFF → peek d (a - 0x2000#16) w = some v)

/-- 20_memory.md R110, R120-R131 (decisions D14-D17, D20, D33-D35): what each I/O register and IE reads as; `d` is
the draw that fills the bits no register holds. -/
def Obligations.IoRegistersRead : Prop :=
  ∀ (d : Byte) (s : State),
    Reads d 0xFF00#16 s (fun v => v.extractLsb' 0 4 = s.io.p1Input ∧ v.extractLsb' 4 2 = s.io.p1Select ∧
      v.extractLsb' 6 2 = d.extractLsb' 6 2) ∧
    Reads d 0xFF01#16 s (· = s.io.sb) ∧ Reads d 0xFF02#16 s (· = s.io.sc) ∧
    Reads d 0xFF04#16 s (· = s.timer.div) ∧ Reads d 0xFF05#16 s (· = s.timer.tima) ∧
    Reads d 0xFF06#16 s (· = s.timer.tma) ∧
    Reads d 0xFF07#16 s (fun v => v.extractLsb' 0 3 = s.timer.tac ∧ v.extractLsb' 3 5 = d.extractLsb' 3 5) ∧
    Reads d 0xFF0F#16 s (fun v => v.extractLsb' 0 5 = s.intFlag ∧ v.extractLsb' 5 3 = d.extractLsb' 5 3) ∧
    Reads d 0xFF40#16 s (· = s.io.lcdc) ∧
    Reads d 0xFF41#16 s (fun v => v.extractLsb' 0 3 = s.io.statPpu ∧ v.extractLsb' 3 4 = s.io.statCpu ∧
      v.extractLsb' 7 1 = d.extractLsb' 7 1) ∧
    Reads d 0xFF42#16 s (· = s.io.scy) ∧ Reads d 0xFF43#16 s (· = s.io.scx) ∧ Reads d 0xFF44#16 s (· = s.io.ly) ∧
    Reads d 0xFF47#16 s (· = s.io.bgp) ∧ Reads d 0xFF48#16 s (· = s.io.obp0) ∧ Reads d 0xFF49#16 s (· = s.io.obp1) ∧
    Reads d 0xFF50#16 s (· = d) ∧
    Reads d 0xFFFF#16 s (fun v => v.extractLsb' 0 5 = s.intEnable ∧ v.extractLsb' 5 3 = d.extractLsb' 5 3) ∧
    ∀ a : Word, 0xFF00 ≤ a.toNat → a.toNat ≤ 0xFF7F → a.toNat ∉ knownIo → Reads d a s (· = s.params.ioStubRead)

/-- 20_memory.md R110, R120-R131 (decisions D14-D17, D20, D33-D35): what a store to each I/O register and to IE does. -/
def Obligations.IoRegistersWrite : Prop :=
  ∀ (v : Byte) (s : State),
    writeByte 0xFF00#16 v s = .next { s with io := { s.io with p1Select := v.extractLsb' 4 2 } } ∧
    writeByte 0xFF01#16 v s = .next { s with io := { s.io with sb := v } } ∧
    writeByte 0xFF02#16 v s = .next { s with io := { s.io with sc := v } } ∧
    writeByte 0xFF04#16 v s = .next { s with timer := { s.timer with div := 0#8, divAcc := 0 } } ∧
    writeByte 0xFF05#16 v s = .next { s with timer := { s.timer with tima := v } } ∧
    writeByte 0xFF06#16 v s = .next { s with timer := { s.timer with tma := v } } ∧
    writeByte 0xFF07#16 v s = .next { s with timer := { s.timer with tac := v.extractLsb' 0 3 } } ∧
    writeByte 0xFF0F#16 v s = .next { s with intFlag := v.extractLsb' 0 5 } ∧
    writeByte 0xFF40#16 v s = .next { s with io := { s.io with lcdc := v } } ∧
    writeByte 0xFF41#16 v s = .next { s with io := { s.io with statCpu := v.extractLsb' 3 4 } } ∧
    writeByte 0xFF42#16 v s = .next { s with io := { s.io with scy := v } } ∧
    writeByte 0xFF43#16 v s = .next { s with io := { s.io with scx := v } } ∧
    writeByte 0xFF44#16 v s = .next s ∧
    writeByte 0xFF47#16 v s = .next { s with io := { s.io with bgp := v } } ∧
    writeByte 0xFF48#16 v s = .next { s with io := { s.io with obp0 := v } } ∧
    writeByte 0xFF49#16 v s = .next { s with io := { s.io with obp1 := v } } ∧
    writeByte 0xFF50#16 v s = .next { s with bootLatch := true } ∧
    writeByte 0xFFFF#16 v s = .next { s with intEnable := v.extractLsb' 0 5 } ∧
    ∀ a : Word, 0xFF00 ≤ a.toNat → a.toNat ≤ 0xFF7F → a.toNat ∉ knownIo → writeByte a v s = .next s

/-- 20_memory.md R106, R105, R130 (decision D20): while the latch is 0 the overlay covers reads of 0x0000-0x00FF and
no write; no step clears the latch. -/
def Obligations.BootOverlayCoversReadsUntilLatched : Prop :=
  (∀ (a : Word) (v d : Byte) (s : State), a.toNat ≤ 0x00FF →
    (s.bootLatch = false → peek d a s = some (Config.bootImage (BitVec.ofNat 8 a.toNat))) ∧
    (s.bootLatch = true → peek d a s = some (cartRead d a.toNat s.cart)) ∧
    writeByte a v s = .next { s with cart := cartWrite a.toNat v s.cart }) ∧
  (∀ s t : State, s.bootLatch = true → step s = .next t → t.bootLatch = true)

/-- 20_memory.md R151, R152, R153 (decision D23): the controller without banking. -/
def Obligations.NoBankingCartridge : Prop :=
  ∀ (a : Word) (v d : Byte) (s : State), s.cart.variant = .noBanking →
    (a.toNat ≤ 0x7FFF → (0x00FF < a.toNat ∨ s.bootLatch = true) →
      peek d a s = some (if a.toNat < s.cart.romLen then romGet a.toNat s.cart.rom else 0x00#8)) ∧
    (0xA000 ≤ a.toNat → a.toNat ≤ 0xBFFF → peek d a s = some d) ∧
    (a.toNat ≤ 0x7FFF ∨ (0xA000 ≤ a.toNat ∧ a.toNat ≤ 0xBFFF) → writeByte a v s = .next s)

/-- 20_memory.md R160-R164 (decision D22): what a store does to the switchable-banking controller, window by window. -/
def Obligations.BankRegistersWrite : Prop :=
  ∀ (a : Word) (v : Byte) (s : State), s.cart.variant = .switchableBanking →
    (a.toNat ≤ 0x1FFF →
      writeByte a v s = .next { s with cart := { s.cart with ramEnable := decide (v.toNat % 16 = 0x0A) } }) ∧
    (0x2000 ≤ a.toNat → a.toNat ≤ 0x3FFF →
      writeByte a v s =
        .next { s with
          cart := { s.cart with romLow := if v.toNat % 32 = 0 then 1#5 else BitVec.ofNat 5 v.toNat } }) ∧
    (0x4000 ≤ a.toNat → a.toNat ≤ 0x5FFF →
      writeByte a v s =
        .next { s with
          cart :=
            { s.cart with
              ramBank := if s.cart.mode then BitVec.ofNat 2 v.toNat else s.cart.ramBank
              romHigh := if s.cart.mode then s.cart.romHigh else BitVec.ofNat 2 v.toNat } }) ∧
    (0x6000 ≤ a.toNat → a.toNat ≤ 0x7FFF →
      writeByte a v s =
        .next { s with
          cart :=
            { s.cart with
              mode := decide (v.toNat % 2 = 1), ramBank := if v.toNat % 2 = 1 then s.cart.ramBank else 0#2 } }) ∧
    (0xA000 ≤ a.toNat → a.toNat ≤ 0xBFFF →
      writeByte a v s =
        .next { s with
          cart :=
            { s.cart with
              cram :=
                if s.cart.ramEnable then memSet (s.cart.ramBank.toNat * 0x2000 + (a.toNat - 0xA000)) v s.cart.cram
                else s.cart.cram } })

/-- 20_memory.md R165, R166, R167 (decisions D22, D23): what the switchable-banking windows show, and a byte stored
in an enabled RAM bank reads back. -/
def Obligations.BankWindowsRead : Prop :=
  ∀ (a : Word) (d : Byte) (s : State), s.cart.variant = .switchableBanking →
    (a.toNat ≤ 0x3FFF → (0x00FF < a.toNat ∨ s.bootLatch = true) →
      peek d a s = some (if a.toNat < s.cart.romLen then romGet a.toNat s.cart.rom else d)) ∧
    (0x4000 ≤ a.toNat → a.toNat ≤ 0x7FFF →
      peek d a s =
        some
          (if (32 * s.cart.romHigh.toNat + s.cart.romLow.toNat) * 0x4000 + (a.toNat - 0x4000) < s.cart.romLen then
            romGet ((32 * s.cart.romHigh.toNat + s.cart.romLow.toNat) * 0x4000 + (a.toNat - 0x4000)) s.cart.rom
          else d)) ∧
    (0xA000 ≤ a.toNat → a.toNat ≤ 0xBFFF →
      (s.cart.ramEnable = true →
        peek d a s = some (cramGet (s.cart.ramBank.toNat * 0x2000 + (a.toNat - 0xA000)) s.cart.cram) ∧
        ∀ v, ∃ w, writeByte a v s = .next w ∧ peek d a w = some v) ∧
      (s.cart.ramEnable = false → peek d a s = some d))

/-- 20_memory.md R150 (decision D21): the loader's checks in order, and what it builds. -/
def Obligations.LoaderChecksAndBuilds : Prop :=
  ∀ (types : CartTypeMap) (img : List Byte),
    (img.length < 0x148 → load types img = .error (.truncatedCartridgeImage img.length)) ∧
    (0x148 ≤ img.length →
      (typeLookup (img.getD 0x147 0#8) types = none →
        load types img = .error (.unsupportedCartridgeType (img.getD 0x147 0#8))) ∧
      (∀ variant, typeLookup (img.getD 0x147 0#8) types = some variant →
        ((variant = .noBanking ∧ 32768 < img.length) ∨ (variant = .switchableBanking ∧ 131072 < img.length) →
          load types img = .error (.oversizedCartridgeImage img.length)) ∧
        ((variant = .noBanking → img.length ≤ 32768) → (variant = .switchableBanking → img.length ≤ 131072) →
          ∃ c, load types img = .ok c ∧ c.variant = variant ∧ c.romLen = img.length ∧
            Memory.wfRom c.rom c.romLen = true ∧ (∀ k, k < img.length → img[k]? = some (romGet k c.rom)) ∧
            c.ramEnable = false ∧ c.romLow = 1#5 ∧ c.romHigh = 0#2 ∧ c.ramBank = 0#2 ∧ c.mode = false ∧ c.cram = [])))

/-- The memory frame of every instruction: a byte that no store of the instruction disturbs (`storeTargets`,
`disturbs`) reads as before (an inference from 20_memory.md R103, R104, R105, R132). -/
def Obligations.InstructionsKeepOtherBytes : Prop :=
  ∀ (i : Instr) (s t : State) (a : Word) (d : Byte), exec i s = .next t →
    (∀ b, b ∈ storeTargets i s → disturbs s b a = false) → peek d a t = peek d a s

/-- What a store leaves of everything but bytes: each part of the state changes only through the addresses that
are its own (an inference from 20_memory.md R100, R105, R120). -/
def Obligations.StoresChangeOnlyTheirBand : Prop :=
  ∀ (a : Word) (v : Byte) (s w : State), writeByte a v s = .next w →
    w = { s with
      cart := w.cart, ram := w.ram, io := w.io, timer := w.timer, intFlag := w.intFlag, intEnable := w.intEnable,
      bootLatch := w.bootLatch } ∧
    w.cart.variant = s.cart.variant ∧ w.cart.rom = s.cart.rom ∧ w.cart.romLen = s.cart.romLen ∧
    (0x7FFF < a.toNat → (a.toNat < 0xA000 ∨ 0xBFFF < a.toNat) → w.cart = s.cart) ∧
    (a.toNat < 0x8000 ∨ (0x9FFF < a.toNat ∧ a.toNat < 0xC000) ∨ (0xFE9F < a.toNat ∧ a.toNat < 0xFF80) ∨
      a.toNat = 0xFFFF → w.ram = s.ram) ∧
    (a.toNat ∉ ioCells → w.io = s.io) ∧ (a.toNat < 0xFF04 ∨ 0xFF07 < a.toNat → w.timer = s.timer) ∧
    (a.toNat ≠ 0xFF0F → w.intFlag = s.intFlag) ∧ (a.toNat ≠ 0xFFFF → w.intEnable = s.intEnable) ∧
    (a.toNat ≠ 0xFF50 → w.bootLatch = s.bootLatch)

/-- The control state's frame, over all instructions (an inference from the lists of writers in the rules named):
IME, its pending change, `halted` and `stopped` change only by the instructions 10_state.md R50, R53 and R54 name;
IE and IF only by a store to their addresses (R51, R52); no instruction sets a fault and goes on, or changes the
cartridge image, the parameters or the frame total. -/
def Obligations.ControlStateFrame : Prop :=
  ∀ (i : Instr) (s t : State), exec i s = .next t →
    (i ≠ .reti → t.ime = s.ime) ∧
    (i ≠ .ei → i ≠ .di → i ≠ .reti → t.imePending = s.imePending) ∧
    (i ≠ .halt → t.halted = s.halted) ∧
    ((∀ b, i ≠ .stop b) → t.stopped = s.stopped) ∧
    (0xFFFF#16 ∉ storeTargets i s → t.intEnable = s.intEnable) ∧
    (0xFF0F#16 ∉ storeTargets i s → t.intFlag = s.intFlag) ∧
    (0xFF50#16 ∉ storeTargets i s → t.bootLatch = s.bootLatch) ∧
    t.fault = s.fault ∧ t.params = s.params ∧ t.frameTotal = s.frameTotal ∧
    t.cart.variant = s.cart.variant ∧ t.cart.rom = s.cart.rom ∧ t.cart.romLen = s.cart.romLen

/-- 30_encoding.md R189, 70_reset_and_hazards.md R500 (decisions D1, D2): an instruction that completes returns a
multiple of 4 from 4 to 24. -/
def Obligations.CycleCountsAreLegal : Prop :=
  ∀ (i : Instr) (s t : State), exec i s = .next t → t.cycles % 4 = 0 ∧ 4 ≤ t.cycles ∧ t.cycles ≤ 24

/-! ### Interrupts, timers, scheduler -/

/-- 60_exceptions.md R424 (decision D6): the pending IME change, and `EI` reaching IME only at the second boundary
after it. -/
def Obligations.PendingImeChange : Prop :=
  ∀ s : State,
    applyPending { s with imePending := .none } = { s with imePending := .none } ∧
    applyPending { s with imePending := .enable2 } = { s with imePending := .enable1 } ∧
    applyPending { s with imePending := .disable2 } = { s with imePending := .disable1 } ∧
    applyPending { s with imePending := .enable1 } = { s with ime := true, imePending := .none } ∧
    applyPending { s with imePending := .disable1 } = { s with ime := false, imePending := .none } ∧
    (∀ t, exec .ei s = .next t →
      (applyPending t).ime = s.ime ∧ (applyPending (applyPending t)).ime = true ∧
        (applyPending (applyPending t)).imePending = .none) ∧
    (∀ t, exec .di s = .next t →
      (applyPending t).ime = s.ime ∧ (applyPending (applyPending t)).ime = false ∧
        (applyPending (applyPending t)).imePending = .none)

/-- 60_exceptions.md R425, R410 (decisions D6, D35): taking an interrupt clears the request and IME, cancels the
pending change, wakes the core, pushes PC and goes to 0x0040 + 8k. -/
def Obligations.DispatchPushesPcAndVectors : Prop :=
  ∀ (k : Irq) (s : State),
    k.bit < 5 ∧
    PushesThen (dispatchIrq k s)
      { s with
        intFlag := s.intFlag &&& ~~~(1#5 <<< k.bit), ime := false, imePending := .none, halted := false }
      s.pc (fun t => { t with pc := BitVec.ofNat 16 (0x0040 + 8 * k.bit) })

/-- 60_exceptions.md R420-R423, R426 (decisions D5, D8, D10): the service step, case by case. -/
def Obligations.ServiceStep : Prop :=
  ∀ s : State,
    (s.stopped = true → s.intFlag.getLsbD 4 = false → service s = .next (0, afterPolicy s.ime s)) ∧
    (s.stopped = false ∨ s.intFlag.getLsbD 4 = true →
      (s.intEnable &&& s.intFlag = 0#5 → service s = .next (0, afterPolicy s.ime { s with stopped := false })) ∧
      (s.intEnable &&& s.intFlag ≠ 0#5 → s.ime = false →
        service s = .next (0, afterPolicy false { s with stopped := false, halted := false })) ∧
      (∀ k : Irq, (s.intEnable &&& s.intFlag).getLsbD k.bit = true →
        (∀ j, j < k.bit → (s.intEnable &&& s.intFlag).getLsbD j = false) → s.ime = true →
        service s =
          andThen (dispatchIrq k { s with stopped := false, halted := false })
            fun t => .next (20, afterPolicy true t)))

/-- 60_exceptions.md R440, R442, R443 (decisions D12, D13): the divider loses no cycle, and the counter is the
spec's loop. -/
def Obligations.DividerAndCounterTick : Prop :=
  ∀ (c : Nat) (s : State),
    (∃ q r, s.timer.divAcc + c = 256 * q + r ∧ r < 256 ∧
      tickDivider c s =
        { s with timer := { s.timer with divAcc := r, div := BitVec.ofNat 8 (s.timer.div.toNat + q) } }) ∧
    (s.timer.tac.getLsbD 2 = false → tickCounter c s = (false, s)) ∧
    (∀ rate, s.timer.tac.getLsbD 2 = true → [1024, 16, 64, 256][s.timer.tac.toNat % 4]? = some rate →
      (s.timer.timaAcc + c < rate →
        tickCounter c s = (false, { s with timer := { s.timer with timaAcc := s.timer.timaAcc + c } })) ∧
      (rate ≤ s.timer.timaAcc + c →
        tickCounter c s =
          let r :=
            tickCounter 0
              { s with
                timer :=
                  { s.timer with
                    tima := if s.timer.tima = 0xFF#8 then s.timer.tma else s.timer.tima + 1#8
                    timaAcc := s.timer.timaAcc + c - rate } }
          (decide (s.timer.tima = 0xFF#8) || r.1, r.2))) ∧
    tickCounterRequest c s =
      { (tickCounter c s).2 with
        intFlag := if (tickCounter c s).1 then s.intFlag ||| 0b00100#5 else s.intFlag }

/-- 60_exceptions.md R450, R452 (decisions D10-D12, D37): an iteration that runs an instruction, one that is halted or
stopped, and one that faults. -/
def Obligations.SchedulerIteration : Prop :=
  ∀ (s u : State) (c : Nat), s.fault = none → service (applyPending s) = .next (c, u) →
    (∀ t, u.halted = false → u.stopped = false → executeOne u = .next t →
      iteration s =
        .next { pixelTick (tickCounterRequest (c + t.cycles) (tickDivider t.cycles t)) with
          frameTotal := s.frameTotal + (c + t.cycles) }) ∧
    (∀ e, u.halted = false → u.stopped = false → executeOne u = .fault e → iteration s = .fault e) ∧
    (u.halted = true ∨ u.stopped = true →
      iteration s =
        .next { pixelTick (tickCounterRequest (c + 4)
            (if s.params.divTicksWhenHalted then tickDivider 4 { u with cycles := 4 } else { u with cycles := 4 })) with
          frameTotal := s.frameTotal + (c + 4) })

/-- 60_exceptions.md R451 (decision D29): a frame runs until its budget is spent, and overshoots it by at most 23 cycles
of an instruction and 20 of a dispatch. -/
def Obligations.FrameEndsWithBoundedOvershoot : Prop :=
  ∀ (target : Nat) (s t : State), runFrame target s = .next t →
    target ≤ t.frameTotal ∧ t.frameTotal ≤ target + 43 ∧ (target = 0 → t = { s with frameTotal := 0 })

/-- 60_exceptions.md R460, R462 (decision D30): the collaborators' steps write nothing but what they may. Which values
they write is free (notes/assumptions/8.md). -/
def Obligations.CollaboratorsWriteOnlyTheirBits : Prop :=
  ∀ s : State,
    (∃ ly mode req, req &&& 0b11100#5 = 0#5 ∧
      pixelTick s =
        { s with
          io := { s.io with ly := ly, statPpu := mode }, intFlag := s.intFlag ||| req, draws := s.draws + 2 }) ∧
    (∃ lines req, (req = 0#5 ∨ (req = 0b10000#5 ∧ lines ≠ s.io.p1Input)) ∧
      inputTick s =
        { s with io := { s.io with p1Input := lines }, intFlag := s.intFlag ||| req, draws := s.draws + 1 })

/-- 10_state.md R62, 60_exceptions.md R405 (decision D31): a faulted core takes no further step, whichever of its
operations the host calls: each answers the fault with the state at the fault (notes/assumptions/10.md). -/
def Obligations.FaultedCoreTakesNoStep : Prop :=
  ∀ (s : State) (r : FaultRecord), s.fault = some r →
    step s = .fault (faultOf r s) ∧ iteration s = .fault (faultOf r s) ∧
    (∀ target, runFrame target s = .fault (faultOf r s)) ∧ (∀ frames, hostLoop (frames + 1) s = .fault (faultOf r s)) ∧
    ¬∃ t, step s = .next t

/-! ### Reset and invariants -/

/-- 10_state.md R58, R59, 70_reset_and_hazards.md R480-R482: what `power_up` leaves, and that the reset state is the
start of a session: the loader on an image, construction, `power_up`; no core where the load fails. The values of A to L, F, IF, DIV and the
I/O cells are the spec's own defaults from general knowledge (notes/assumptions/5.md); the NoBanking cartridge of
32 KiB is the model's choice (notes/assumptions/3.md). -/
def Obligations.ResetValues : Prop :=
  State.reset.pc = 0x0100#16 ∧ State.reset.sp = 0xFFFE#16 ∧
  State.reset.regs = { a := 0x01#8, b := 0x00#8, c := 0x13#8, d := 0x00#8, e := 0xD8#8, h := 0x01#8, l := 0x4D#8 } ∧
  State.reset.f.toByte = 0xB0#8 ∧ State.reset.ime = false ∧ State.reset.imePending = .none ∧
  State.reset.halted = false ∧ State.reset.stopped = false ∧
  State.reset.intFlag = 0b00001#5 ∧ State.reset.intEnable = 0b00000#5 ∧
  State.reset.timer = { div := 0xAB#8, divAcc := 0, tima := 0x00#8, tma := 0x00#8, tac := 0b000#3, timaAcc := 0 } ∧
  State.reset.bootLatch = true ∧ State.reset.io.p1Select = 0b00#2 ∧ State.reset.io.sb = 0x00#8 ∧
  State.reset.io.sc = 0x7E#8 ∧ State.reset.io.lcdc = 0x91#8 ∧ State.reset.io.statCpu = 0b0000#4 ∧
  State.reset.io.scy = 0x00#8 ∧ State.reset.io.scx = 0x00#8 ∧ State.reset.io.bgp = 0xFC#8 ∧
  State.reset.cart.ramEnable = false ∧ State.reset.cart.romLow = 1#5 ∧ State.reset.cart.romHigh = 0#2 ∧
  State.reset.cart.ramBank = 0#2 ∧ State.reset.cart.mode = false ∧ State.reset.fault = none ∧
  State.reset.frameTotal = 0 ∧
  (∀ (v : PostBoot) (s : State), (powerUp v s).ram = s.ram ∧ (powerUp v s).cart = s.cart ∧
    (powerUp v s).bootLatch = true ∧ (powerUp v s).pc = v.pc ∧ (powerUp v s).sp = v.sp) ∧
  (∀ (types : CartTypeMap) (v : PostBoot) (params : Params) (img : List Byte),
    (∀ e, load types img = .error e → startSession types v params img = .error e) ∧
    (∀ c, load types img = .ok c →
      startSession types v params img = .ok (powerUp v (State.constructed c params)))) ∧
  startSession defaultTypeMap defaultPostBoot defaultParams resetImage = .ok State.reset

/-- The invariant holds at reset. -/
def Obligations.ResetMeetsTheInvariant : Prop := State.reset.Inv

/-- Every step keeps the invariant: memories in canonical form and within their sizes (10_state.md R57, R60),
`rom_low` never 0 (R60, R161), RAM bank 0 in ROM mode (R163), the divider's accumulator below 256 (R55), never both
halted and stopped, no fault in a core that goes on (R62). -/
def Obligations.EveryStepKeepsTheInvariant : Prop :=
  ∀ s t : State, s.Inv → step s = .next t → t.Inv

/-- 60_exceptions.md R451, R463, 70_reset_and_hazards.md R482 (decision D29; notes/assumptions/9.md): a session starts
in a state with the invariant, or not at all, and its host loop, `frames` calls of `run_frame(FRAME_CYCLES)`, is a run
of at least as many steps, to the same state or the same fault; the same from every state between two frames. With
FRAME_CYCLES = 0 a step runs no iteration. -/
def Obligations.SessionIsARunOfSteps : Prop :=
  (∀ (types : CartTypeMap) (v : PostBoot) (params : Params) (img : List Byte) (frames : Nat),
    (∀ e, startSession types v params img = .error e → runSession types v params img frames = .error e) ∧
    (∀ s, startSession types v params img = .ok s →
      s.Inv ∧ ∃ k, frames ≤ k ∧ runSession types v params img frames = .ok (steps k s))) ∧
  (∀ (frames : Nat) (s : State), s.fault = none → s.frameTotal = 0 ∨ s.params.frameCycles ≤ s.frameTotal →
    ∃ k, frames ≤ k ∧ hostLoop frames s = steps k s) ∧
  (∀ s : State, s.fault = none → s.params.frameCycles = 0 → step s = .next { s with frameTotal := 0 })
end

