-- ==== Sys2Proof/Laws/State.lean ====
section
/-! SUPPORT. One lemma per field per named update of the state, so that no proof unfolds a record update. -/

namespace Sys2Proof.Machine

@[simp] theorem setReg_f (r : Reg8) (v : Byte) (s : State) : (s.setReg r v).f = s.f := rfl
@[simp] theorem setReg_sp (r : Reg8) (v : Byte) (s : State) : (s.setReg r v).sp = s.sp := rfl
@[simp] theorem setReg_pc (r : Reg8) (v : Byte) (s : State) : (s.setReg r v).pc = s.pc := rfl
@[simp] theorem setReg_ime (r : Reg8) (v : Byte) (s : State) : (s.setReg r v).ime = s.ime := rfl
@[simp] theorem setReg_imePending (r : Reg8) (v : Byte) (s : State) : (s.setReg r v).imePending = s.imePending := rfl
@[simp] theorem setReg_intFlag (r : Reg8) (v : Byte) (s : State) : (s.setReg r v).intFlag = s.intFlag := rfl
@[simp] theorem setReg_intEnable (r : Reg8) (v : Byte) (s : State) : (s.setReg r v).intEnable = s.intEnable := rfl
@[simp] theorem setReg_halted (r : Reg8) (v : Byte) (s : State) : (s.setReg r v).halted = s.halted := rfl
@[simp] theorem setReg_stopped (r : Reg8) (v : Byte) (s : State) : (s.setReg r v).stopped = s.stopped := rfl
@[simp] theorem setReg_timer (r : Reg8) (v : Byte) (s : State) : (s.setReg r v).timer = s.timer := rfl
@[simp] theorem setReg_bootLatch (r : Reg8) (v : Byte) (s : State) : (s.setReg r v).bootLatch = s.bootLatch := rfl
@[simp] theorem setReg_ram (r : Reg8) (v : Byte) (s : State) : (s.setReg r v).ram = s.ram := rfl
@[simp] theorem setReg_cart (r : Reg8) (v : Byte) (s : State) : (s.setReg r v).cart = s.cart := rfl
@[simp] theorem setReg_io (r : Reg8) (v : Byte) (s : State) : (s.setReg r v).io = s.io := rfl
@[simp] theorem setReg_fault (r : Reg8) (v : Byte) (s : State) : (s.setReg r v).fault = s.fault := rfl
@[simp] theorem setReg_frameTotal (r : Reg8) (v : Byte) (s : State) : (s.setReg r v).frameTotal = s.frameTotal := rfl
@[simp] theorem setReg_params (r : Reg8) (v : Byte) (s : State) : (s.setReg r v).params = s.params := rfl
@[simp] theorem setReg_draws (r : Reg8) (v : Byte) (s : State) : (s.setReg r v).draws = s.draws := rfl
@[simp] theorem setReg_cycles (r : Reg8) (v : Byte) (s : State) : (s.setReg r v).cycles = s.cycles := rfl
@[simp] theorem setReg_regs (r : Reg8) (v : Byte) (s : State) : (s.setReg r v).regs = s.regs.set r v := rfl

/-- Reading a register after a write: the written one gives the value, every other is as it was. -/
theorem get_set (r r' : Reg8) (v : Byte) (x : Regs) : (x.set r v).get r' = if r' = r then v else x.get r' := by
  cases r <;> cases r' <;> rfl

@[simp] theorem get_set_same (r : Reg8) (v : Byte) (x : Regs) : (x.set r v).get r = v := by
  rw [get_set, if_pos rfl]

@[simp] theorem setPair_f (p : Rp) (v : Word) (s : State) : (s.setPair p v).f = s.f := by cases p <;> rfl
@[simp] theorem setPair_pc (p : Rp) (v : Word) (s : State) : (s.setPair p v).pc = s.pc := by cases p <;> rfl
@[simp] theorem setPair_ime (p : Rp) (v : Word) (s : State) : (s.setPair p v).ime = s.ime := by cases p <;> rfl
@[simp] theorem setPair_imePending (p : Rp) (v : Word) (s : State) : (s.setPair p v).imePending = s.imePending := by cases p <;> rfl
@[simp] theorem setPair_intFlag (p : Rp) (v : Word) (s : State) : (s.setPair p v).intFlag = s.intFlag := by cases p <;> rfl
@[simp] theorem setPair_intEnable (p : Rp) (v : Word) (s : State) : (s.setPair p v).intEnable = s.intEnable := by cases p <;> rfl
@[simp] theorem setPair_halted (p : Rp) (v : Word) (s : State) : (s.setPair p v).halted = s.halted := by cases p <;> rfl
@[simp] theorem setPair_stopped (p : Rp) (v : Word) (s : State) : (s.setPair p v).stopped = s.stopped := by cases p <;> rfl
@[simp] theorem setPair_timer (p : Rp) (v : Word) (s : State) : (s.setPair p v).timer = s.timer := by cases p <;> rfl
@[simp] theorem setPair_bootLatch (p : Rp) (v : Word) (s : State) : (s.setPair p v).bootLatch = s.bootLatch := by cases p <;> rfl
@[simp] theorem setPair_ram (p : Rp) (v : Word) (s : State) : (s.setPair p v).ram = s.ram := by cases p <;> rfl
@[simp] theorem setPair_cart (p : Rp) (v : Word) (s : State) : (s.setPair p v).cart = s.cart := by cases p <;> rfl
@[simp] theorem setPair_io (p : Rp) (v : Word) (s : State) : (s.setPair p v).io = s.io := by cases p <;> rfl
@[simp] theorem setPair_fault (p : Rp) (v : Word) (s : State) : (s.setPair p v).fault = s.fault := by cases p <;> rfl
@[simp] theorem setPair_frameTotal (p : Rp) (v : Word) (s : State) : (s.setPair p v).frameTotal = s.frameTotal := by cases p <;> rfl
@[simp] theorem setPair_params (p : Rp) (v : Word) (s : State) : (s.setPair p v).params = s.params := by cases p <;> rfl
@[simp] theorem setPair_draws (p : Rp) (v : Word) (s : State) : (s.setPair p v).draws = s.draws := by cases p <;> rfl
@[simp] theorem setPair_cycles (p : Rp) (v : Word) (s : State) : (s.setPair p v).cycles = s.cycles := by cases p <;> rfl
@[simp] theorem setPair2_pc (p : Rp2) (v : Word) (s : State) : (s.setPair2 p v).pc = s.pc := by cases p <;> rfl
@[simp] theorem setPair2_ime (p : Rp2) (v : Word) (s : State) : (s.setPair2 p v).ime = s.ime := by cases p <;> rfl
@[simp] theorem setPair2_imePending (p : Rp2) (v : Word) (s : State) : (s.setPair2 p v).imePending = s.imePending := by cases p <;> rfl
@[simp] theorem setPair2_intFlag (p : Rp2) (v : Word) (s : State) : (s.setPair2 p v).intFlag = s.intFlag := by cases p <;> rfl
@[simp] theorem setPair2_intEnable (p : Rp2) (v : Word) (s : State) : (s.setPair2 p v).intEnable = s.intEnable := by cases p <;> rfl
@[simp] theorem setPair2_halted (p : Rp2) (v : Word) (s : State) : (s.setPair2 p v).halted = s.halted := by cases p <;> rfl
@[simp] theorem setPair2_stopped (p : Rp2) (v : Word) (s : State) : (s.setPair2 p v).stopped = s.stopped := by cases p <;> rfl
@[simp] theorem setPair2_timer (p : Rp2) (v : Word) (s : State) : (s.setPair2 p v).timer = s.timer := by cases p <;> rfl
@[simp] theorem setPair2_bootLatch (p : Rp2) (v : Word) (s : State) : (s.setPair2 p v).bootLatch = s.bootLatch := by cases p <;> rfl
@[simp] theorem setPair2_ram (p : Rp2) (v : Word) (s : State) : (s.setPair2 p v).ram = s.ram := by cases p <;> rfl
@[simp] theorem setPair2_cart (p : Rp2) (v : Word) (s : State) : (s.setPair2 p v).cart = s.cart := by cases p <;> rfl
@[simp] theorem setPair2_io (p : Rp2) (v : Word) (s : State) : (s.setPair2 p v).io = s.io := by cases p <;> rfl
@[simp] theorem setPair2_fault (p : Rp2) (v : Word) (s : State) : (s.setPair2 p v).fault = s.fault := by cases p <;> rfl
@[simp] theorem setPair2_frameTotal (p : Rp2) (v : Word) (s : State) : (s.setPair2 p v).frameTotal = s.frameTotal := by cases p <;> rfl
@[simp] theorem setPair2_params (p : Rp2) (v : Word) (s : State) : (s.setPair2 p v).params = s.params := by cases p <;> rfl
@[simp] theorem setPair2_draws (p : Rp2) (v : Word) (s : State) : (s.setPair2 p v).draws = s.draws := by cases p <;> rfl
@[simp] theorem setPair2_cycles (p : Rp2) (v : Word) (s : State) : (s.setPair2 p v).cycles = s.cycles := by cases p <;> rfl
@[simp] theorem setPair2_sp (p : Rp2) (v : Word) (s : State) : (s.setPair2 p v).sp = s.sp := by cases p <;> rfl
@[simp] theorem ptrStep_f (p : Ptr) (s : State) : (ptrStep p s).f = s.f := by cases p <;> rfl
@[simp] theorem ptrStep_sp (p : Ptr) (s : State) : (ptrStep p s).sp = s.sp := by cases p <;> rfl
@[simp] theorem ptrStep_pc (p : Ptr) (s : State) : (ptrStep p s).pc = s.pc := by cases p <;> rfl
@[simp] theorem ptrStep_ime (p : Ptr) (s : State) : (ptrStep p s).ime = s.ime := by cases p <;> rfl
@[simp] theorem ptrStep_imePending (p : Ptr) (s : State) : (ptrStep p s).imePending = s.imePending := by cases p <;> rfl
@[simp] theorem ptrStep_intFlag (p : Ptr) (s : State) : (ptrStep p s).intFlag = s.intFlag := by cases p <;> rfl
@[simp] theorem ptrStep_intEnable (p : Ptr) (s : State) : (ptrStep p s).intEnable = s.intEnable := by cases p <;> rfl
@[simp] theorem ptrStep_halted (p : Ptr) (s : State) : (ptrStep p s).halted = s.halted := by cases p <;> rfl
@[simp] theorem ptrStep_stopped (p : Ptr) (s : State) : (ptrStep p s).stopped = s.stopped := by cases p <;> rfl
@[simp] theorem ptrStep_timer (p : Ptr) (s : State) : (ptrStep p s).timer = s.timer := by cases p <;> rfl
@[simp] theorem ptrStep_bootLatch (p : Ptr) (s : State) : (ptrStep p s).bootLatch = s.bootLatch := by cases p <;> rfl
@[simp] theorem ptrStep_ram (p : Ptr) (s : State) : (ptrStep p s).ram = s.ram := by cases p <;> rfl
@[simp] theorem ptrStep_cart (p : Ptr) (s : State) : (ptrStep p s).cart = s.cart := by cases p <;> rfl
@[simp] theorem ptrStep_io (p : Ptr) (s : State) : (ptrStep p s).io = s.io := by cases p <;> rfl
@[simp] theorem ptrStep_fault (p : Ptr) (s : State) : (ptrStep p s).fault = s.fault := by cases p <;> rfl
@[simp] theorem ptrStep_frameTotal (p : Ptr) (s : State) : (ptrStep p s).frameTotal = s.frameTotal := by cases p <;> rfl
@[simp] theorem ptrStep_params (p : Ptr) (s : State) : (ptrStep p s).params = s.params := by cases p <;> rfl
@[simp] theorem ptrStep_draws (p : Ptr) (s : State) : (ptrStep p s).draws = s.draws := by cases p <;> rfl
@[simp] theorem ptrStep_cycles (p : Ptr) (s : State) : (ptrStep p s).cycles = s.cycles := by cases p <;> rfl

@[simp] theorem tickDivider_regs (n : Nat) (s : State) : (tickDivider n s).regs = s.regs := rfl
@[simp] theorem tickDivider_f (n : Nat) (s : State) : (tickDivider n s).f = s.f := rfl
@[simp] theorem tickDivider_sp (n : Nat) (s : State) : (tickDivider n s).sp = s.sp := rfl
@[simp] theorem tickDivider_pc (n : Nat) (s : State) : (tickDivider n s).pc = s.pc := rfl
@[simp] theorem tickDivider_ime (n : Nat) (s : State) : (tickDivider n s).ime = s.ime := rfl
@[simp] theorem tickDivider_imePending (n : Nat) (s : State) : (tickDivider n s).imePending = s.imePending := rfl
@[simp] theorem tickDivider_intFlag (n : Nat) (s : State) : (tickDivider n s).intFlag = s.intFlag := rfl
@[simp] theorem tickDivider_intEnable (n : Nat) (s : State) : (tickDivider n s).intEnable = s.intEnable := rfl
@[simp] theorem tickDivider_halted (n : Nat) (s : State) : (tickDivider n s).halted = s.halted := rfl
@[simp] theorem tickDivider_stopped (n : Nat) (s : State) : (tickDivider n s).stopped = s.stopped := rfl
@[simp] theorem tickDivider_bootLatch (n : Nat) (s : State) : (tickDivider n s).bootLatch = s.bootLatch := rfl
@[simp] theorem tickDivider_ram (n : Nat) (s : State) : (tickDivider n s).ram = s.ram := rfl
@[simp] theorem tickDivider_cart (n : Nat) (s : State) : (tickDivider n s).cart = s.cart := rfl
@[simp] theorem tickDivider_io (n : Nat) (s : State) : (tickDivider n s).io = s.io := rfl
@[simp] theorem tickDivider_fault (n : Nat) (s : State) : (tickDivider n s).fault = s.fault := rfl
@[simp] theorem tickDivider_frameTotal (n : Nat) (s : State) : (tickDivider n s).frameTotal = s.frameTotal := rfl
@[simp] theorem tickDivider_params (n : Nat) (s : State) : (tickDivider n s).params = s.params := rfl
@[simp] theorem tickDivider_draws (n : Nat) (s : State) : (tickDivider n s).draws = s.draws := rfl
@[simp] theorem tickDivider_cycles (n : Nat) (s : State) : (tickDivider n s).cycles = s.cycles := rfl

@[simp] theorem pixelTick_regs (s : State) : (pixelTick s).regs = s.regs := rfl
@[simp] theorem pixelTick_f (s : State) : (pixelTick s).f = s.f := rfl
@[simp] theorem pixelTick_sp (s : State) : (pixelTick s).sp = s.sp := rfl
@[simp] theorem pixelTick_pc (s : State) : (pixelTick s).pc = s.pc := rfl
@[simp] theorem pixelTick_ime (s : State) : (pixelTick s).ime = s.ime := rfl
@[simp] theorem pixelTick_imePending (s : State) : (pixelTick s).imePending = s.imePending := rfl
@[simp] theorem pixelTick_intEnable (s : State) : (pixelTick s).intEnable = s.intEnable := rfl
@[simp] theorem pixelTick_halted (s : State) : (pixelTick s).halted = s.halted := rfl
@[simp] theorem pixelTick_stopped (s : State) : (pixelTick s).stopped = s.stopped := rfl
@[simp] theorem pixelTick_timer (s : State) : (pixelTick s).timer = s.timer := rfl
@[simp] theorem pixelTick_bootLatch (s : State) : (pixelTick s).bootLatch = s.bootLatch := rfl
@[simp] theorem pixelTick_ram (s : State) : (pixelTick s).ram = s.ram := rfl
@[simp] theorem pixelTick_cart (s : State) : (pixelTick s).cart = s.cart := rfl
@[simp] theorem pixelTick_fault (s : State) : (pixelTick s).fault = s.fault := rfl
@[simp] theorem pixelTick_frameTotal (s : State) : (pixelTick s).frameTotal = s.frameTotal := rfl
@[simp] theorem pixelTick_params (s : State) : (pixelTick s).params = s.params := rfl
@[simp] theorem pixelTick_cycles (s : State) : (pixelTick s).cycles = s.cycles := rfl

@[simp] theorem inputTick_regs (s : State) : (inputTick s).regs = s.regs := rfl
@[simp] theorem inputTick_f (s : State) : (inputTick s).f = s.f := rfl
@[simp] theorem inputTick_sp (s : State) : (inputTick s).sp = s.sp := rfl
@[simp] theorem inputTick_pc (s : State) : (inputTick s).pc = s.pc := rfl
@[simp] theorem inputTick_ime (s : State) : (inputTick s).ime = s.ime := rfl
@[simp] theorem inputTick_imePending (s : State) : (inputTick s).imePending = s.imePending := rfl
@[simp] theorem inputTick_intEnable (s : State) : (inputTick s).intEnable = s.intEnable := rfl
@[simp] theorem inputTick_halted (s : State) : (inputTick s).halted = s.halted := rfl
@[simp] theorem inputTick_stopped (s : State) : (inputTick s).stopped = s.stopped := rfl
@[simp] theorem inputTick_timer (s : State) : (inputTick s).timer = s.timer := rfl
@[simp] theorem inputTick_bootLatch (s : State) : (inputTick s).bootLatch = s.bootLatch := rfl
@[simp] theorem inputTick_ram (s : State) : (inputTick s).ram = s.ram := rfl
@[simp] theorem inputTick_cart (s : State) : (inputTick s).cart = s.cart := rfl
@[simp] theorem inputTick_fault (s : State) : (inputTick s).fault = s.fault := rfl
@[simp] theorem inputTick_frameTotal (s : State) : (inputTick s).frameTotal = s.frameTotal := rfl
@[simp] theorem inputTick_params (s : State) : (inputTick s).params = s.params := rfl
@[simp] theorem inputTick_cycles (s : State) : (inputTick s).cycles = s.cycles := rfl

@[simp] theorem applyPending_regs (s : State) : (applyPending s).regs = s.regs := by unfold applyPending; split <;> rfl
@[simp] theorem applyPending_f (s : State) : (applyPending s).f = s.f := by unfold applyPending; split <;> rfl
@[simp] theorem applyPending_sp (s : State) : (applyPending s).sp = s.sp := by unfold applyPending; split <;> rfl
@[simp] theorem applyPending_pc (s : State) : (applyPending s).pc = s.pc := by unfold applyPending; split <;> rfl
@[simp] theorem applyPending_intFlag (s : State) : (applyPending s).intFlag = s.intFlag := by unfold applyPending; split <;> rfl
@[simp] theorem applyPending_intEnable (s : State) : (applyPending s).intEnable = s.intEnable := by unfold applyPending; split <;> rfl
@[simp] theorem applyPending_halted (s : State) : (applyPending s).halted = s.halted := by unfold applyPending; split <;> rfl
@[simp] theorem applyPending_stopped (s : State) : (applyPending s).stopped = s.stopped := by unfold applyPending; split <;> rfl
@[simp] theorem applyPending_timer (s : State) : (applyPending s).timer = s.timer := by unfold applyPending; split <;> rfl
@[simp] theorem applyPending_bootLatch (s : State) : (applyPending s).bootLatch = s.bootLatch := by unfold applyPending; split <;> rfl
@[simp] theorem applyPending_ram (s : State) : (applyPending s).ram = s.ram := by unfold applyPending; split <;> rfl
@[simp] theorem applyPending_cart (s : State) : (applyPending s).cart = s.cart := by unfold applyPending; split <;> rfl
@[simp] theorem applyPending_io (s : State) : (applyPending s).io = s.io := by unfold applyPending; split <;> rfl
@[simp] theorem applyPending_fault (s : State) : (applyPending s).fault = s.fault := by unfold applyPending; split <;> rfl
@[simp] theorem applyPending_frameTotal (s : State) : (applyPending s).frameTotal = s.frameTotal := by unfold applyPending; split <;> rfl
@[simp] theorem applyPending_params (s : State) : (applyPending s).params = s.params := by unfold applyPending; split <;> rfl
@[simp] theorem applyPending_draws (s : State) : (applyPending s).draws = s.draws := by unfold applyPending; split <;> rfl
@[simp] theorem applyPending_cycles (s : State) : (applyPending s).cycles = s.cycles := by unfold applyPending; split <;> rfl

@[simp] theorem tickCounter_regs (n : Nat) (s : State) : (tickCounter n s).2.regs = s.regs := by unfold tickCounter; split <;> rfl
@[simp] theorem tickCounter_f (n : Nat) (s : State) : (tickCounter n s).2.f = s.f := by unfold tickCounter; split <;> rfl
@[simp] theorem tickCounter_sp (n : Nat) (s : State) : (tickCounter n s).2.sp = s.sp := by unfold tickCounter; split <;> rfl
@[simp] theorem tickCounter_pc (n : Nat) (s : State) : (tickCounter n s).2.pc = s.pc := by unfold tickCounter; split <;> rfl
@[simp] theorem tickCounter_ime (n : Nat) (s : State) : (tickCounter n s).2.ime = s.ime := by unfold tickCounter; split <;> rfl
@[simp] theorem tickCounter_imePending (n : Nat) (s : State) : (tickCounter n s).2.imePending = s.imePending := by unfold tickCounter; split <;> rfl
@[simp] theorem tickCounter_intFlag (n : Nat) (s : State) : (tickCounter n s).2.intFlag = s.intFlag := by unfold tickCounter; split <;> rfl
@[simp] theorem tickCounter_intEnable (n : Nat) (s : State) : (tickCounter n s).2.intEnable = s.intEnable := by unfold tickCounter; split <;> rfl
@[simp] theorem tickCounter_halted (n : Nat) (s : State) : (tickCounter n s).2.halted = s.halted := by unfold tickCounter; split <;> rfl
@[simp] theorem tickCounter_stopped (n : Nat) (s : State) : (tickCounter n s).2.stopped = s.stopped := by unfold tickCounter; split <;> rfl
@[simp] theorem tickCounter_bootLatch (n : Nat) (s : State) : (tickCounter n s).2.bootLatch = s.bootLatch := by unfold tickCounter; split <;> rfl
@[simp] theorem tickCounter_ram (n : Nat) (s : State) : (tickCounter n s).2.ram = s.ram := by unfold tickCounter; split <;> rfl
@[simp] theorem tickCounter_cart (n : Nat) (s : State) : (tickCounter n s).2.cart = s.cart := by unfold tickCounter; split <;> rfl
@[simp] theorem tickCounter_io (n : Nat) (s : State) : (tickCounter n s).2.io = s.io := by unfold tickCounter; split <;> rfl
@[simp] theorem tickCounter_fault (n : Nat) (s : State) : (tickCounter n s).2.fault = s.fault := by unfold tickCounter; split <;> rfl
@[simp] theorem tickCounter_frameTotal (n : Nat) (s : State) : (tickCounter n s).2.frameTotal = s.frameTotal := by unfold tickCounter; split <;> rfl
@[simp] theorem tickCounter_params (n : Nat) (s : State) : (tickCounter n s).2.params = s.params := by unfold tickCounter; split <;> rfl
@[simp] theorem tickCounter_draws (n : Nat) (s : State) : (tickCounter n s).2.draws = s.draws := by unfold tickCounter; split <;> rfl
@[simp] theorem tickCounter_cycles (n : Nat) (s : State) : (tickCounter n s).2.cycles = s.cycles := by unfold tickCounter; split <;> rfl

@[simp] theorem wakeStopped_regs (s : State) : (wakeStopped  s).regs = s.regs := by unfold wakeStopped; split <;> rfl
@[simp] theorem wakeStopped_f (s : State) : (wakeStopped  s).f = s.f := by unfold wakeStopped; split <;> rfl
@[simp] theorem wakeStopped_sp (s : State) : (wakeStopped  s).sp = s.sp := by unfold wakeStopped; split <;> rfl
@[simp] theorem wakeStopped_pc (s : State) : (wakeStopped  s).pc = s.pc := by unfold wakeStopped; split <;> rfl
@[simp] theorem wakeStopped_ime (s : State) : (wakeStopped  s).ime = s.ime := by unfold wakeStopped; split <;> rfl
@[simp] theorem wakeStopped_imePending (s : State) : (wakeStopped  s).imePending = s.imePending := by unfold wakeStopped; split <;> rfl
@[simp] theorem wakeStopped_intFlag (s : State) : (wakeStopped  s).intFlag = s.intFlag := by unfold wakeStopped; split <;> rfl
@[simp] theorem wakeStopped_intEnable (s : State) : (wakeStopped  s).intEnable = s.intEnable := by unfold wakeStopped; split <;> rfl
@[simp] theorem wakeStopped_halted (s : State) : (wakeStopped  s).halted = s.halted := by unfold wakeStopped; split <;> rfl
@[simp] theorem wakeStopped_timer (s : State) : (wakeStopped  s).timer = s.timer := by unfold wakeStopped; split <;> rfl
@[simp] theorem wakeStopped_bootLatch (s : State) : (wakeStopped  s).bootLatch = s.bootLatch := by unfold wakeStopped; split <;> rfl
@[simp] theorem wakeStopped_ram (s : State) : (wakeStopped  s).ram = s.ram := by unfold wakeStopped; split <;> rfl
@[simp] theorem wakeStopped_cart (s : State) : (wakeStopped  s).cart = s.cart := by unfold wakeStopped; split <;> rfl
@[simp] theorem wakeStopped_io (s : State) : (wakeStopped  s).io = s.io := by unfold wakeStopped; split <;> rfl
@[simp] theorem wakeStopped_fault (s : State) : (wakeStopped  s).fault = s.fault := by unfold wakeStopped; split <;> rfl
@[simp] theorem wakeStopped_frameTotal (s : State) : (wakeStopped  s).frameTotal = s.frameTotal := by unfold wakeStopped; split <;> rfl
@[simp] theorem wakeStopped_params (s : State) : (wakeStopped  s).params = s.params := by unfold wakeStopped; split <;> rfl
@[simp] theorem wakeStopped_draws (s : State) : (wakeStopped  s).draws = s.draws := by unfold wakeStopped; split <;> rfl
@[simp] theorem wakeStopped_cycles (s : State) : (wakeStopped  s).cycles = s.cycles := by unfold wakeStopped; split <;> rfl

@[simp] theorem wakeHalted_regs (s : State) : (wakeHalted  s).regs = s.regs := by unfold wakeHalted; split <;> rfl
@[simp] theorem wakeHalted_f (s : State) : (wakeHalted  s).f = s.f := by unfold wakeHalted; split <;> rfl
@[simp] theorem wakeHalted_sp (s : State) : (wakeHalted  s).sp = s.sp := by unfold wakeHalted; split <;> rfl
@[simp] theorem wakeHalted_pc (s : State) : (wakeHalted  s).pc = s.pc := by unfold wakeHalted; split <;> rfl
@[simp] theorem wakeHalted_ime (s : State) : (wakeHalted  s).ime = s.ime := by unfold wakeHalted; split <;> rfl
@[simp] theorem wakeHalted_imePending (s : State) : (wakeHalted  s).imePending = s.imePending := by unfold wakeHalted; split <;> rfl
@[simp] theorem wakeHalted_intFlag (s : State) : (wakeHalted  s).intFlag = s.intFlag := by unfold wakeHalted; split <;> rfl
@[simp] theorem wakeHalted_intEnable (s : State) : (wakeHalted  s).intEnable = s.intEnable := by unfold wakeHalted; split <;> rfl
@[simp] theorem wakeHalted_stopped (s : State) : (wakeHalted  s).stopped = s.stopped := by unfold wakeHalted; split <;> rfl
@[simp] theorem wakeHalted_timer (s : State) : (wakeHalted  s).timer = s.timer := by unfold wakeHalted; split <;> rfl
@[simp] theorem wakeHalted_bootLatch (s : State) : (wakeHalted  s).bootLatch = s.bootLatch := by unfold wakeHalted; split <;> rfl
@[simp] theorem wakeHalted_ram (s : State) : (wakeHalted  s).ram = s.ram := by unfold wakeHalted; split <;> rfl
@[simp] theorem wakeHalted_cart (s : State) : (wakeHalted  s).cart = s.cart := by unfold wakeHalted; split <;> rfl
@[simp] theorem wakeHalted_io (s : State) : (wakeHalted  s).io = s.io := by unfold wakeHalted; split <;> rfl
@[simp] theorem wakeHalted_fault (s : State) : (wakeHalted  s).fault = s.fault := by unfold wakeHalted; split <;> rfl
@[simp] theorem wakeHalted_frameTotal (s : State) : (wakeHalted  s).frameTotal = s.frameTotal := by unfold wakeHalted; split <;> rfl
@[simp] theorem wakeHalted_params (s : State) : (wakeHalted  s).params = s.params := by unfold wakeHalted; split <;> rfl
@[simp] theorem wakeHalted_draws (s : State) : (wakeHalted  s).draws = s.draws := by unfold wakeHalted; split <;> rfl
@[simp] theorem wakeHalted_cycles (s : State) : (wakeHalted  s).cycles = s.cycles := by unfold wakeHalted; split <;> rfl

@[simp] theorem applyClearPolicy_regs (b : Bool) (s : State) : (applyClearPolicy b s).regs = s.regs := by unfold applyClearPolicy; split <;> (try split) <;> rfl
@[simp] theorem applyClearPolicy_f (b : Bool) (s : State) : (applyClearPolicy b s).f = s.f := by unfold applyClearPolicy; split <;> (try split) <;> rfl
@[simp] theorem applyClearPolicy_sp (b : Bool) (s : State) : (applyClearPolicy b s).sp = s.sp := by unfold applyClearPolicy; split <;> (try split) <;> rfl
@[simp] theorem applyClearPolicy_pc (b : Bool) (s : State) : (applyClearPolicy b s).pc = s.pc := by unfold applyClearPolicy; split <;> (try split) <;> rfl
@[simp] theorem applyClearPolicy_ime (b : Bool) (s : State) : (applyClearPolicy b s).ime = s.ime := by unfold applyClearPolicy; split <;> (try split) <;> rfl
@[simp] theorem applyClearPolicy_imePending (b : Bool) (s : State) : (applyClearPolicy b s).imePending = s.imePending := by unfold applyClearPolicy; split <;> (try split) <;> rfl
@[simp] theorem applyClearPolicy_intEnable (b : Bool) (s : State) : (applyClearPolicy b s).intEnable = s.intEnable := by unfold applyClearPolicy; split <;> (try split) <;> rfl
@[simp] theorem applyClearPolicy_halted (b : Bool) (s : State) : (applyClearPolicy b s).halted = s.halted := by unfold applyClearPolicy; split <;> (try split) <;> rfl
@[simp] theorem applyClearPolicy_stopped (b : Bool) (s : State) : (applyClearPolicy b s).stopped = s.stopped := by unfold applyClearPolicy; split <;> (try split) <;> rfl
@[simp] theorem applyClearPolicy_timer (b : Bool) (s : State) : (applyClearPolicy b s).timer = s.timer := by unfold applyClearPolicy; split <;> (try split) <;> rfl
@[simp] theorem applyClearPolicy_bootLatch (b : Bool) (s : State) : (applyClearPolicy b s).bootLatch = s.bootLatch := by unfold applyClearPolicy; split <;> (try split) <;> rfl
@[simp] theorem applyClearPolicy_ram (b : Bool) (s : State) : (applyClearPolicy b s).ram = s.ram := by unfold applyClearPolicy; split <;> (try split) <;> rfl
@[simp] theorem applyClearPolicy_cart (b : Bool) (s : State) : (applyClearPolicy b s).cart = s.cart := by unfold applyClearPolicy; split <;> (try split) <;> rfl
@[simp] theorem applyClearPolicy_io (b : Bool) (s : State) : (applyClearPolicy b s).io = s.io := by unfold applyClearPolicy; split <;> (try split) <;> rfl
@[simp] theorem applyClearPolicy_fault (b : Bool) (s : State) : (applyClearPolicy b s).fault = s.fault := by unfold applyClearPolicy; split <;> (try split) <;> rfl
@[simp] theorem applyClearPolicy_frameTotal (b : Bool) (s : State) : (applyClearPolicy b s).frameTotal = s.frameTotal := by unfold applyClearPolicy; split <;> (try split) <;> rfl
@[simp] theorem applyClearPolicy_params (b : Bool) (s : State) : (applyClearPolicy b s).params = s.params := by unfold applyClearPolicy; split <;> (try split) <;> rfl
@[simp] theorem applyClearPolicy_draws (b : Bool) (s : State) : (applyClearPolicy b s).draws = s.draws := by unfold applyClearPolicy; split <;> (try split) <;> rfl
@[simp] theorem applyClearPolicy_cycles (b : Bool) (s : State) : (applyClearPolicy b s).cycles = s.cycles := by unfold applyClearPolicy; split <;> (try split) <;> rfl

@[simp] theorem beginFrame_regs (s : State) : (beginFrame  s).regs = s.regs := by unfold beginFrame; split <;> rfl
@[simp] theorem beginFrame_f (s : State) : (beginFrame  s).f = s.f := by unfold beginFrame; split <;> rfl
@[simp] theorem beginFrame_sp (s : State) : (beginFrame  s).sp = s.sp := by unfold beginFrame; split <;> rfl
@[simp] theorem beginFrame_pc (s : State) : (beginFrame  s).pc = s.pc := by unfold beginFrame; split <;> rfl
@[simp] theorem beginFrame_ime (s : State) : (beginFrame  s).ime = s.ime := by unfold beginFrame; split <;> rfl
@[simp] theorem beginFrame_imePending (s : State) : (beginFrame  s).imePending = s.imePending := by unfold beginFrame; split <;> rfl
@[simp] theorem beginFrame_intFlag (s : State) : (beginFrame  s).intFlag = s.intFlag := by unfold beginFrame; split <;> rfl
@[simp] theorem beginFrame_intEnable (s : State) : (beginFrame  s).intEnable = s.intEnable := by unfold beginFrame; split <;> rfl
@[simp] theorem beginFrame_halted (s : State) : (beginFrame  s).halted = s.halted := by unfold beginFrame; split <;> rfl
@[simp] theorem beginFrame_stopped (s : State) : (beginFrame  s).stopped = s.stopped := by unfold beginFrame; split <;> rfl
@[simp] theorem beginFrame_timer (s : State) : (beginFrame  s).timer = s.timer := by unfold beginFrame; split <;> rfl
@[simp] theorem beginFrame_bootLatch (s : State) : (beginFrame  s).bootLatch = s.bootLatch := by unfold beginFrame; split <;> rfl
@[simp] theorem beginFrame_ram (s : State) : (beginFrame  s).ram = s.ram := by unfold beginFrame; split <;> rfl
@[simp] theorem beginFrame_cart (s : State) : (beginFrame  s).cart = s.cart := by unfold beginFrame; split <;> rfl
@[simp] theorem beginFrame_io (s : State) : (beginFrame  s).io = s.io := by unfold beginFrame; split <;> rfl
@[simp] theorem beginFrame_fault (s : State) : (beginFrame  s).fault = s.fault := by unfold beginFrame; split <;> rfl
@[simp] theorem beginFrame_params (s : State) : (beginFrame  s).params = s.params := by unfold beginFrame; split <;> rfl
@[simp] theorem beginFrame_draws (s : State) : (beginFrame  s).draws = s.draws := by unfold beginFrame; split <;> rfl
@[simp] theorem beginFrame_cycles (s : State) : (beginFrame  s).cycles = s.cycles := by unfold beginFrame; split <;> rfl

@[simp] theorem idle_regs (s : State) : (idle  s).regs = s.regs := by unfold idle; dsimp only; split <;> rfl
@[simp] theorem idle_f (s : State) : (idle  s).f = s.f := by unfold idle; dsimp only; split <;> rfl
@[simp] theorem idle_sp (s : State) : (idle  s).sp = s.sp := by unfold idle; dsimp only; split <;> rfl
@[simp] theorem idle_pc (s : State) : (idle  s).pc = s.pc := by unfold idle; dsimp only; split <;> rfl
@[simp] theorem idle_ime (s : State) : (idle  s).ime = s.ime := by unfold idle; dsimp only; split <;> rfl
@[simp] theorem idle_imePending (s : State) : (idle  s).imePending = s.imePending := by unfold idle; dsimp only; split <;> rfl
@[simp] theorem idle_intFlag (s : State) : (idle  s).intFlag = s.intFlag := by unfold idle; dsimp only; split <;> rfl
@[simp] theorem idle_intEnable (s : State) : (idle  s).intEnable = s.intEnable := by unfold idle; dsimp only; split <;> rfl
@[simp] theorem idle_halted (s : State) : (idle  s).halted = s.halted := by unfold idle; dsimp only; split <;> rfl
@[simp] theorem idle_stopped (s : State) : (idle  s).stopped = s.stopped := by unfold idle; dsimp only; split <;> rfl
@[simp] theorem idle_bootLatch (s : State) : (idle  s).bootLatch = s.bootLatch := by unfold idle; dsimp only; split <;> rfl
@[simp] theorem idle_ram (s : State) : (idle  s).ram = s.ram := by unfold idle; dsimp only; split <;> rfl
@[simp] theorem idle_cart (s : State) : (idle  s).cart = s.cart := by unfold idle; dsimp only; split <;> rfl
@[simp] theorem idle_io (s : State) : (idle  s).io = s.io := by unfold idle; dsimp only; split <;> rfl
@[simp] theorem idle_fault (s : State) : (idle  s).fault = s.fault := by unfold idle; dsimp only; split <;> rfl
@[simp] theorem idle_frameTotal (s : State) : (idle  s).frameTotal = s.frameTotal := by unfold idle; dsimp only; split <;> rfl
@[simp] theorem idle_params (s : State) : (idle  s).params = s.params := by unfold idle; dsimp only; split <;> rfl
@[simp] theorem idle_draws (s : State) : (idle  s).draws = s.draws := by unfold idle; dsimp only; split <;> rfl

@[simp] theorem tickCounterRequest_regs (n : Nat) (s : State) : (tickCounterRequest n s).regs = s.regs := by unfold tickCounterRequest; dsimp only; split <;> simp
@[simp] theorem tickCounterRequest_f (n : Nat) (s : State) : (tickCounterRequest n s).f = s.f := by unfold tickCounterRequest; dsimp only; split <;> simp
@[simp] theorem tickCounterRequest_sp (n : Nat) (s : State) : (tickCounterRequest n s).sp = s.sp := by unfold tickCounterRequest; dsimp only; split <;> simp
@[simp] theorem tickCounterRequest_pc (n : Nat) (s : State) : (tickCounterRequest n s).pc = s.pc := by unfold tickCounterRequest; dsimp only; split <;> simp
@[simp] theorem tickCounterRequest_ime (n : Nat) (s : State) : (tickCounterRequest n s).ime = s.ime := by unfold tickCounterRequest; dsimp only; split <;> simp
@[simp] theorem tickCounterRequest_imePending (n : Nat) (s : State) : (tickCounterRequest n s).imePending = s.imePending := by unfold tickCounterRequest; dsimp only; split <;> simp
@[simp] theorem tickCounterRequest_intEnable (n : Nat) (s : State) : (tickCounterRequest n s).intEnable = s.intEnable := by unfold tickCounterRequest; dsimp only; split <;> simp
@[simp] theorem tickCounterRequest_halted (n : Nat) (s : State) : (tickCounterRequest n s).halted = s.halted := by unfold tickCounterRequest; dsimp only; split <;> simp
@[simp] theorem tickCounterRequest_stopped (n : Nat) (s : State) : (tickCounterRequest n s).stopped = s.stopped := by unfold tickCounterRequest; dsimp only; split <;> simp
@[simp] theorem tickCounterRequest_bootLatch (n : Nat) (s : State) : (tickCounterRequest n s).bootLatch = s.bootLatch := by unfold tickCounterRequest; dsimp only; split <;> simp
@[simp] theorem tickCounterRequest_ram (n : Nat) (s : State) : (tickCounterRequest n s).ram = s.ram := by unfold tickCounterRequest; dsimp only; split <;> simp
@[simp] theorem tickCounterRequest_cart (n : Nat) (s : State) : (tickCounterRequest n s).cart = s.cart := by unfold tickCounterRequest; dsimp only; split <;> simp
@[simp] theorem tickCounterRequest_io (n : Nat) (s : State) : (tickCounterRequest n s).io = s.io := by unfold tickCounterRequest; dsimp only; split <;> simp
@[simp] theorem tickCounterRequest_fault (n : Nat) (s : State) : (tickCounterRequest n s).fault = s.fault := by unfold tickCounterRequest; dsimp only; split <;> simp
@[simp] theorem tickCounterRequest_frameTotal (n : Nat) (s : State) : (tickCounterRequest n s).frameTotal = s.frameTotal := by unfold tickCounterRequest; dsimp only; split <;> simp
@[simp] theorem tickCounterRequest_params (n : Nat) (s : State) : (tickCounterRequest n s).params = s.params := by unfold tickCounterRequest; dsimp only; split <;> simp
@[simp] theorem tickCounterRequest_draws (n : Nat) (s : State) : (tickCounterRequest n s).draws = s.draws := by unfold tickCounterRequest; dsimp only; split <;> simp
@[simp] theorem tickCounterRequest_cycles (n : Nat) (s : State) : (tickCounterRequest n s).cycles = s.cycles := by unfold tickCounterRequest; dsimp only; split <;> simp

@[simp] theorem endIteration_regs (n : Nat) (s : State) : (endIteration n s).regs = s.regs := by unfold endIteration; simp
@[simp] theorem endIteration_f (n : Nat) (s : State) : (endIteration n s).f = s.f := by unfold endIteration; simp
@[simp] theorem endIteration_sp (n : Nat) (s : State) : (endIteration n s).sp = s.sp := by unfold endIteration; simp
@[simp] theorem endIteration_pc (n : Nat) (s : State) : (endIteration n s).pc = s.pc := by unfold endIteration; simp
@[simp] theorem endIteration_ime (n : Nat) (s : State) : (endIteration n s).ime = s.ime := by unfold endIteration; simp
@[simp] theorem endIteration_imePending (n : Nat) (s : State) : (endIteration n s).imePending = s.imePending := by unfold endIteration; simp
@[simp] theorem endIteration_intEnable (n : Nat) (s : State) : (endIteration n s).intEnable = s.intEnable := by unfold endIteration; simp
@[simp] theorem endIteration_halted (n : Nat) (s : State) : (endIteration n s).halted = s.halted := by unfold endIteration; simp
@[simp] theorem endIteration_stopped (n : Nat) (s : State) : (endIteration n s).stopped = s.stopped := by unfold endIteration; simp
@[simp] theorem endIteration_bootLatch (n : Nat) (s : State) : (endIteration n s).bootLatch = s.bootLatch := by unfold endIteration; simp
@[simp] theorem endIteration_ram (n : Nat) (s : State) : (endIteration n s).ram = s.ram := by unfold endIteration; simp
@[simp] theorem endIteration_cart (n : Nat) (s : State) : (endIteration n s).cart = s.cart := by unfold endIteration; simp
@[simp] theorem endIteration_fault (n : Nat) (s : State) : (endIteration n s).fault = s.fault := by unfold endIteration; simp
@[simp] theorem endIteration_params (n : Nat) (s : State) : (endIteration n s).params = s.params := by unfold endIteration; simp
@[simp] theorem endIteration_cycles (n : Nat) (s : State) : (endIteration n s).cycles = s.cycles := by unfold endIteration; simp


/-! ### `andThen` -/

@[simp] theorem andThen_next {α β : Type} (x : α) (k : α → Out β) : andThen (.next x) k = k x := rfl

@[simp] theorem andThen_fault {α β : Type} (e : Fault) (k : α → Out β) : andThen (.fault e : Out α) k = .fault e := rfl

@[simp] theorem andThen_refused {α β : Type} (e : Refusal) (k : α → Out β) : andThen (.refused e : Out α) k = .refused e := rfl

@[simp] theorem andThen_raise {α β : Type} (r : FaultRecord) (s : State) (k : α → Out β) :
    andThen (raise r s : Out α) k = raise r s := rfl

/-- A sequence answers a next value only through one of its first part. -/
theorem andThen_eq_next {α β : Type} {r : Out α} {k : α → Out β} {y : β} (h : andThen r k = .next y) :
    ∃ x, r = .next x ∧ k x = .next y := by
  cases r with
  | next x => exact ⟨x, rfl, h⟩
  | fault e => cases h
  | refused e => cases h

theorem andThen_assoc {α β γ : Type} (r : Out α) (k : α → Out β) (k' : β → Out γ) :
    andThen (andThen r k) k' = andThen r fun x => andThen (k x) k' := by
  cases r <;> rfl

@[simp] theorem raise_ne_next {α : Type} (r : FaultRecord) (s : State) (x : α) : (raise r s : Out α) ≠ .next x := by
  intro h; cases h

theorem done_eq_next {n : Nat} {s t : State} (h : done n s = .next t) : t = { s with cycles := n } := by
  cases h; rfl

end Sys2Proof.Machine
end

