-- ==== Sys2Proof/Laws/Bytes.lean ====
section
/-! SUPPORT. Words and their halves: `hi:lo` is a bijection (10_state.md R41). -/

namespace Sys2Proof.Machine

theorem toNat_wordOf (hi lo : Byte) : (wordOf hi lo).toNat = hi.toNat * 256 + lo.toNat := by
  have h := lo.isLt
  show (hi ++ lo).toNat = _
  rw [BitVec.toNat_append, Nat.shiftLeft_eq, Nat.mul_comm]
  exact (Nat.two_pow_add_eq_or_of_lt h hi.toNat).symm.trans (by omega)

theorem toNat_hiByte (v : Word) : (hiByte v).toNat = v.toNat / 256 := by
  have h := v.isLt
  unfold hiByte
  rw [BitVec.extractLsb'_toNat, Nat.shiftRight_eq_div_pow]
  omega

theorem toNat_loByte (v : Word) : (loByte v).toNat = v.toNat % 256 := by
  unfold loByte
  rw [BitVec.extractLsb'_toNat, Nat.shiftRight_eq_div_pow]
  omega

@[simp] theorem wordOf_halves (v : Word) : wordOf (hiByte v) (loByte v) = v := by
  apply BitVec.eq_of_toNat_eq
  rw [toNat_wordOf, toNat_hiByte, toNat_loByte]
  omega

@[simp] theorem hiByte_wordOf (hi lo : Byte) : hiByte (wordOf hi lo) = hi := by
  have h := lo.isLt
  apply BitVec.eq_of_toNat_eq
  rw [toNat_hiByte, toNat_wordOf]
  omega

@[simp] theorem loByte_wordOf (hi lo : Byte) : loByte (wordOf hi lo) = lo := by
  have h := lo.isLt
  apply BitVec.eq_of_toNat_eq
  rw [toNat_loByte, toNat_wordOf]
  omega

/-- Reading a pair after a write: the written one gives the value, every other is as it was. -/
theorem pair_setPair (p p' : Rp) (v : Word) (s : State) :
    (s.setPair p v).pair p' = if p' = p then v else s.pair p' := by
  cases p <;> cases p' <;> first | exact wordOf_halves v | rfl

end Sys2Proof.Machine
end

