-- ==== Sys2Proof/Laws/Memory.lean ====
section
/-! SUPPORT. Sparse memory: a read after a write, and that every operation keeps the canonical form. -/

namespace Sys2Proof.Machine

theorem memGet_memSet (k k' : Nat) (v : Byte) (m : Memory) :
    memGet k' (memSet k v m) = if k' = k then some v else memGet k' m := by
  induction m with
  | nil => simp [memSet, memGet]
  | cons cell m ih =>
    obtain ⟨j, u⟩ := cell
    simp only [memSet]
    split
    · simp only [memGet]
    · split
      · subst_vars
        simp only [memGet]
        split <;> rfl
      · simp only [memGet, ih]
        split <;> split <;> simp_all

@[simp] theorem memGet_memSet_same (k : Nat) (v : Byte) (m : Memory) : memGet k (memSet k v m) = some v := by
  rw [memGet_memSet, if_pos rfl]

theorem memGet_memSet_ne {k k' : Nat} (h : k' ≠ k) (v : Byte) (m : Memory) :
    memGet k' (memSet k v m) = memGet k' m := by
  rw [memGet_memSet, if_neg h]

/-- A property of every listed address survives a write at an address that has it. -/
theorem all_memSet {p : Host.Cell → Bool} {k : Nat} {v : Byte} {m : Memory} (hk : p (k, v) = true)
    (hm : m.all p = true) : (memSet k v m).all p = true := by
  induction m with
  | nil => simp [memSet, hk]
  | cons cell m ih =>
    obtain ⟨j, u⟩ := cell
    rw [List.all_cons, Bool.and_eq_true] at hm
    simp only [memSet]
    split
    · simp [hk, hm.1, hm.2]
    · split
      · simp [hk, hm.2]
      · simp [hm.1, ih hm.2]

theorem all_memErase {p : Host.Cell → Bool} {k : Nat} {m : Memory} (hm : m.all p = true) :
    (memErase k m).all p = true := by
  induction m with
  | nil => rfl
  | cons cell m ih =>
    rw [List.all_cons, Bool.and_eq_true] at hm
    simp only [memErase]
    split
    · exact hm.2
    · simp [hm.1, ih hm.2]

theorem wf_cons {k : Nat} {v : Byte} {m : Memory} :
    Memory.wf ((k, v) :: m) = true ↔ m.all (fun cell => decide (k < cell.1)) = true ∧ Memory.wf m = true := by
  simp [Memory.wf]

/-- A write keeps the canonical form. -/
theorem wf_memSet {k : Nat} {v : Byte} {m : Memory} (h : Memory.wf m = true) : Memory.wf (memSet k v m) = true := by
  induction m with
  | nil => rfl
  | cons cell m ih =>
    obtain ⟨j, u⟩ := cell
    have hc := wf_cons.1 h
    simp only [memSet]
    split
    · rename_i hlt
      refine wf_cons.2 ⟨?_, h⟩
      rw [List.all_cons, Bool.and_eq_true]
      refine ⟨by simpa using hlt, ?_⟩
      rw [List.all_eq_true] at hc ⊢
      intro c hm
      have := hc.1 c hm
      simp only [decide_eq_true_eq] at this ⊢
      omega
    · split
      · rename_i he
        exact wf_cons.2 ⟨he ▸ hc.1, hc.2⟩
      · exact wf_cons.2 ⟨all_memSet (by simp; omega) hc.1, ih hc.2⟩

/-- Unlisting an address keeps the canonical form. -/
theorem wf_memErase {k : Nat} {m : Memory} (h : Memory.wf m = true) : Memory.wf (memErase k m) = true := by
  induction m with
  | nil => rfl
  | cons cell m ih =>
    have hc := wf_cons.1 h
    simp only [memErase]
    split
    · exact hc.2
    · exact wf_cons.2 ⟨all_memErase hc.1, ih hc.2⟩

/-- Placing a byte in a cartridge image keeps its canonical form. -/
theorem wfRom_romSet {k : Nat} {v : Byte} {m : Memory} {len : Nat} (hk : k < len) (h : Memory.wfRom m len = true) :
    Memory.wfRom (romSet k v m) len = true := by
  simp only [Memory.wfRom, Bool.and_eq_true] at h ⊢
  unfold romSet
  split
  · exact ⟨wf_memErase h.1, all_memErase h.2⟩
  · rename_i hv
    exact ⟨wf_memSet h.1, all_memSet (by simp [hk, hv]) h.2⟩

theorem ramGet_memSet (k k' : Nat) (v : Byte) (m : Memory) :
    ramGet k' (memSet k v m) = if k' = k then v else ramGet k' m := by
  unfold ramGet
  rw [memGet_memSet]
  split <;> rfl

theorem cramGet_memSet (k k' : Nat) (v : Byte) (m : Memory) :
    cramGet k' (memSet k v m) = if k' = k then v else cramGet k' m := by
  unfold cramGet
  rw [memGet_memSet]
  split <;> rfl

end Sys2Proof.Machine
end

