-- ==== Sys2Proof/Laws/Ops.lean ====
section
/-! SUPPORT. What a read and a write of the address router can do, said once (20_memory.md R101, R104, R105). -/

namespace Sys2Proof.Machine

/-! ### Reads -/

/-- A read of a mapped address gives a byte, and only such a read does. -/
theorem mapped_iff_peek (d : Byte) (a : Word) (s : State) : mapped a = true ↔ ∃ v, peek d a s = some v := by
  unfold mapped peek
  simp only [Bool.or_eq_true, decide_eq_true_eq]
  repeat' split
  all_goals simp
  all_goals omega

theorem peek_eq_none (d : Byte) (a : Word) (s : State) : peek d a s = none ↔ mapped a = false := by
  have h := mapped_iff_peek d a s
  cases hp : peek d a s <;> cases hm : mapped a <;> simp_all

theorem readByte_eq_next {a : Word} {s : State} {r : Byte × State} :
    readByte a s = .next r ↔
      peek (Config.freeByte s.draws) a s = some r.1 ∧ r.2 = { s with draws := s.draws + 1 } := by
  unfold readByte
  cases r
  split
  · simp_all only [Host.Outcome.next.injEq, Prod.mk.injEq, Option.some.injEq]
    exact and_congr Iff.rfl eq_comm
  · simp_all [raise]

theorem readByte_of_peek {a : Word} {s : State} {v : Byte} (h : peek (Config.freeByte s.draws) a s = some v) :
    readByte a s = .next (v, { s with draws := s.draws + 1 }) := readByte_eq_next.2 ⟨h, rfl⟩

theorem readByte_unmapped {a : Word} (s : State) (h : mapped a = false) :
    readByte a s = raise (.unimplementedAddress a .read s.pc) s := by
  unfold readByte
  rw [(peek_eq_none _ a s).2 h]

/-- A read does not depend on the registers, PC, SP, the flags or the counters. -/
theorem peek_congr {d : Byte} {a : Word} {s t : State} (h1 : t.bootLatch = s.bootLatch) (h2 : t.cart = s.cart)
    (h3 : t.ram = s.ram) (h4 : t.io = s.io) (h5 : t.timer = s.timer) (h6 : t.intFlag = s.intFlag)
    (h7 : t.intEnable = s.intEnable) (h8 : t.params = s.params) : peek d a t = peek d a s := by
  unfold peek ioRead
  rw [h1, h2, h3, h4, h5, h6, h7, h8]

/-- A byte of plain storage is the one its key lists. -/
theorem peek_plainRam {d : Byte} {a : Word} {s : State} (h : plainRam a = true) :
    peek d a s = some (ramGet (ramKey a) s.ram) := by
  have hlt := a.isLt
  unfold plainRam at h
  simp only [Bool.or_eq_true, Bool.and_eq_true, decide_eq_true_eq] at h
  unfold peek ramKey
  dsimp only
  repeat' split
  all_goals first | omega | rfl

theorem mapped_of_plainRam {a : Word} (h : plainRam a = true) : mapped a = true := by
  unfold plainRam at h
  unfold mapped
  simp only [Bool.or_eq_true, Bool.and_eq_true, decide_eq_true_eq] at h ⊢
  omega

/-! ### Writes -/

/-- All a write changes: the StorageController, RAM, the I/O cells and the timer, IF, IE, the boot latch. -/
theorem writeByte_shape {a : Word} {v : Byte} {s w : State} (h : writeByte a v s = .next w) :
    w = { s with
      cart := w.cart, ram := w.ram, io := w.io, timer := w.timer, intFlag := w.intFlag,
      intEnable := w.intEnable, bootLatch := w.bootLatch } := by
  unfold writeByte at h
  dsimp only at h
  repeat' split at h
  all_goals first | (cases h; done) | (cases h; rfl) | skip
  cases h
  unfold ioWrite
  split <;> rfl

theorem writeByte_unmapped {a : Word} (v : Byte) (s : State) (h : mapped a = false) :
    writeByte a v s = raise (.unimplementedAddress a .write s.pc) s := by
  unfold mapped at h
  simp only [Bool.or_eq_false_iff, decide_eq_false_iff_not] at h
  unfold writeByte
  dsimp only
  repeat' split
  all_goals first | omega | rfl

theorem writeByte_mapped {a : Word} (v : Byte) (s : State) (h : mapped a = true) : ∃ w, writeByte a v s = .next w := by
  unfold mapped at h
  simp only [Bool.or_eq_true, decide_eq_true_eq] at h
  unfold writeByte
  dsimp only
  repeat' split
  all_goals first | exact ⟨_, rfl⟩ | omega

theorem mapped_of_writeByte {a : Word} {v : Byte} {s w : State} (h : writeByte a v s = .next w) : mapped a = true := by
  cases hm : mapped a
  · rw [writeByte_unmapped v s hm] at h
    cases h
  · rfl

/-- A write to plain storage lists the byte under the address's key and changes nothing else. -/
theorem writeByte_plainRam {a : Word} (v : Byte) (s : State) (h : plainRam a = true) :
    writeByte a v s = .next { s with ram := memSet (ramKey a) v s.ram } := by
  have hlt := a.isLt
  unfold plainRam at h
  simp only [Bool.or_eq_true, Bool.and_eq_true, decide_eq_true_eq] at h
  unfold writeByte ramKey
  dsimp only
  repeat' split
  all_goals first | omega | rfl

theorem cartWrite_variant (n : Nat) (v : Byte) (c : Cart) : (cartWrite n v c).variant = c.variant := by
  unfold cartWrite
  repeat' split
  all_goals rfl

/-- No write changes the cartridge image or the variant (20_memory.md R152; 10_state.md R60). -/
theorem cartWrite_rom (n : Nat) (v : Byte) (c : Cart) :
    (cartWrite n v c).rom = c.rom ∧ (cartWrite n v c).romLen = c.romLen := by
  unfold cartWrite
  repeat' split
  all_goals exact ⟨rfl, rfl⟩

theorem ioWrite_shape (v : Byte) (r : IoReg) (s : State) :
    (ioWrite v r s).cart = s.cart ∧ (ioWrite v r s).ram = s.ram ∧ (ioWrite v r s).intEnable = s.intEnable := by
  unfold ioWrite
  split <;> exact ⟨rfl, rfl, rfl⟩

/-- What a write leaves of the StorageController: its variant and image. -/
theorem writeByte_cart {a : Word} {v : Byte} {s w : State} (h : writeByte a v s = .next w) :
    w.cart.variant = s.cart.variant ∧ w.cart.rom = s.cart.rom ∧ w.cart.romLen = s.cart.romLen := by
  unfold writeByte at h
  dsimp only at h
  repeat' split at h
  all_goals first | (cases h; done) | skip
  all_goals cases h
  all_goals first
    | exact ⟨rfl, rfl, rfl⟩
    | exact ⟨cartWrite_variant .., (cartWrite_rom ..).1, (cartWrite_rom ..).2⟩
    | (rw [(ioWrite_shape ..).1]; exact ⟨rfl, rfl, rfl⟩)

/-- The boot latch is never cleared (20_memory.md R106, R130). -/
theorem writeByte_bootLatch {a : Word} {v : Byte} {s w : State} (h : writeByte a v s = .next w)
    (hb : s.bootLatch = true) : w.bootLatch = true := by
  unfold writeByte at h
  dsimp only at h
  repeat' split at h
  all_goals first | (cases h; done) | skip
  all_goals cases h
  all_goals first | exact hb | skip
  unfold ioWrite
  split <;> first | exact hb | rfl

/-- IE changes only by a write to 0xFFFF (10_state.md R52). -/
theorem writeByte_intEnable {a : Word} {v : Byte} {s w : State} (h : writeByte a v s = .next w)
    (ha : a.toNat ≠ 0xFFFF) : w.intEnable = s.intEnable := by
  have hlt := a.isLt
  unfold writeByte at h
  dsimp only at h
  repeat' split at h
  all_goals first | (cases h; done) | skip
  all_goals first | omega | skip
  all_goals cases h
  all_goals first | rfl | exact (ioWrite_shape ..).2.2

end Sys2Proof.Machine
end

