-- ==== Sys2Proof/Laws/Frame.lean ====
section
/-! SUPPORT. What a store leaves of every other byte: a read of an address it does not disturb gives what it gave before. -/

namespace Sys2Proof.Machine

/-- A byte the StorageController shows outside the windows its registers move. -/
theorem cartRead_cartWrite {d v : Byte} {n n' : Nat} {c : Cart} (hn : n ≤ 0x7FFF ∨ (0xA000 ≤ n ∧ n ≤ 0xBFFF))
    (hne : n' ≠ n)
    (hw : c.variant = .switchableBanking → n ≤ 0x7FFF →
      ¬((0x4000 ≤ n' ∧ n' ≤ 0x7FFF) ∨ (0xA000 ≤ n' ∧ n' ≤ 0xBFFF)))
    (hn' : n' ≤ 0x7FFF ∨ (0xA000 ≤ n' ∧ n' ≤ 0xBFFF)) :
    cartRead d n' (cartWrite n v c) = cartRead d n' c := by
  unfold cartRead
  rw [cartWrite_variant, (cartWrite_rom n v c).1, (cartWrite_rom n v c).2]
  cases hv : c.variant with
  | noBanking => rfl
  | switchableBanking =>
    rw [hv] at hw
    have hw := hw rfl
    dsimp only
    by_cases h1 : n' ≤ 0x3FFF
    · rw [if_pos h1, if_pos h1]
    rw [if_neg h1, if_neg h1]
    by_cases hlow : n ≤ 0x7FFF
    · have := hw hlow
      omega
    · have hc : cartWrite n v c = if c.ramEnable then { c with cram := memSet (cramOffset n c) v c.cram } else c := by
        unfold cartWrite
        rw [hv]
        dsimp only
        rw [if_neg (by omega), if_neg (by omega), if_neg (by omega), if_neg (by omega)]
      rw [hc]
      by_cases he : c.ramEnable = true
      · rw [if_pos he, if_pos he, if_pos he]
        unfold bankedOffset romBank cramOffset
        dsimp only
        split
        · rfl
        · rw [cramGet_memSet, if_neg (by omega)]
      · rw [if_neg he]

/-- The address of a known I/O register (20_memory.md R120). -/
def ioAddr : IoReg → Nat
  | .p1 => 0xFF00 | .sb => 0xFF01 | .sc => 0xFF02 | .div => 0xFF04 | .tima => 0xFF05 | .tma => 0xFF06
  | .tac => 0xFF07 | .intFlag => 0xFF0F | .lcdc => 0xFF40 | .stat => 0xFF41 | .scy => 0xFF42 | .scx => 0xFF43
  | .ly => 0xFF44 | .bgp => 0xFF47 | .obp0 => 0xFF48 | .obp1 => 0xFF49 | .bootOff => 0xFF50 | .unknown => 0

/-- A property of both branches holds of a choice between them. -/
theorem ite_of {α : Type} {P : α → Prop} {c : Prop} [Decidable c] {x y : α} (hx : c → P x) (hy : ¬c → P y) :
    P (if c then x else y) := by
  by_cases h : c
  · rw [if_pos h]; exact hx h
  · rw [if_neg h]; exact hy h

theorem ioAddr_ioReg {n : Nat} (h : ioReg n ≠ .unknown) : ioAddr (ioReg n) = n := by
  suffices H : (fun r => r ≠ IoReg.unknown → ioAddr r = n) (ioReg n) from H h
  unfold ioReg
  iterate 17
    refine ite_of (P := fun r => r ≠ IoReg.unknown → ioAddr r = n) (fun hn _ => Eq.symm hn) fun _ => ?_
  exact fun h => absurd rfl h

theorem ioRead_ioWrite_ne {d v : Byte} {r r' : IoReg} {s : State} (h : r' ≠ r ∨ r = .unknown) :
    ioRead d r' (ioWrite v r s) = ioRead d r' s := by
  cases r <;> first | rfl | (cases r' <;> first | rfl | (simp at h))

/-- An I/O write leaves what every other I/O address reads. -/
theorem ioRead_ioWrite {d v : Byte} {n n' : Nat} {s : State} (hne : n' ≠ n) :
    ioRead d (ioReg n') (ioWrite v (ioReg n) s) = ioRead d (ioReg n') s := by
  apply ioRead_ioWrite_ne
  by_cases hu : ioReg n = .unknown
  · exact .inr hu
  · refine .inl fun h => hne ?_
    exact ((ioAddr_ioReg (h ▸ hu)).symm.trans (congrArg ioAddr h)).trans (ioAddr_ioReg hu)

/-- What an I/O write leaves of the boot overlay. -/
theorem ioWrite_bootLatch {v : Byte} {n : Nat} {s : State} (h : n ≠ 0xFF50) :
    (ioWrite v (ioReg n) s).bootLatch = s.bootLatch := by
  cases hr : ioReg n <;> first | rfl | skip
  have hb := ioAddr_ioReg (n := n) (by rw [hr]; simp)
  rw [hr] at hb
  exact absurd hb.symm h

/-- What an I/O write leaves of the shared cells, the timer and IF (20_memory.md R120). -/
theorem ioWrite_cells (v : Byte) (n : Nat) (s : State) :
    (n ∉ [0xFF00, 0xFF01, 0xFF02, 0xFF40, 0xFF41, 0xFF42, 0xFF43, 0xFF47, 0xFF48, 0xFF49] →
      (ioWrite v (ioReg n) s).io = s.io) ∧
    (n < 0xFF04 ∨ 0xFF07 < n → (ioWrite v (ioReg n) s).timer = s.timer) ∧
    (n ≠ 0xFF0F → (ioWrite v (ioReg n) s).intFlag = s.intFlag) := by
  by_cases hu : ioReg n = .unknown
  · rw [hu]; exact ⟨fun _ => rfl, fun _ => rfl, fun _ => rfl⟩
  have h := ioAddr_ioReg hu
  cases hr : ioReg n <;> rw [hr] at h <;> unfold ioAddr at h <;> dsimp only at h <;> subst h
  all_goals refine ⟨fun h => ?_, fun h => ?_, fun h => ?_⟩
  all_goals first | rfl | (exfalso; revert h; decide)

theorem ioWrite_params (v : Byte) (r : IoReg) (s : State) : (ioWrite v r s).params = s.params := by
  cases r <;> rfl

/-- Two states show the same byte at an address when they agree on what its band reads. -/
theorem peek_ext {d : Byte} {a : Word} {s t : State} (hb : a.toNat ≤ 0x00FF → t.bootLatch = s.bootLatch)
    (hc : a.toNat ≤ 0x7FFF ∨ (0xA000 ≤ a.toNat ∧ a.toNat ≤ 0xBFFF) →
      cartRead d a.toNat t.cart = cartRead d a.toNat s.cart)
    (hr : plainRam a = true → ramGet (ramKey a) t.ram = ramGet (ramKey a) s.ram)
    (hi : 0xFF00 ≤ a.toNat → a.toNat ≤ 0xFF7F → ioRead d (ioReg a.toNat) t = ioRead d (ioReg a.toNat) s)
    (he : a.toNat = 0xFFFF → t.intEnable = s.intEnable) : peek d a t = peek d a s := by
  have hlt := a.isLt
  by_cases hp : plainRam a = true
  · rw [peek_plainRam hp, peek_plainRam hp, hr hp]
  unfold plainRam at hp
  simp only [Bool.or_eq_true, Bool.and_eq_true, decide_eq_true_eq] at hp
  unfold peek
  dsimp only
  refine ite_congr (propext (and_congr_right fun h => by rw [hb h])) (fun _ => rfl) fun _ => ?_
  refine ite_congr rfl (fun h => congrArg some (hc (.inl h))) fun _ => ?_
  refine ite_congr rfl (fun _ => by omega) fun _ => ?_
  refine ite_congr rfl (fun h => congrArg some (hc (.inr ⟨by omega, h⟩))) fun _ => ?_
  refine ite_congr rfl (fun _ => by omega) fun _ => ?_
  refine ite_congr rfl (fun _ => by omega) fun _ => ?_
  refine ite_congr rfl (fun _ => by omega) fun _ => ?_
  refine ite_congr rfl (fun _ => rfl) fun _ => ?_
  refine ite_congr rfl (fun h => congrArg some (hi (by omega) h)) fun _ => ?_
  refine ite_congr rfl (fun _ => by omega) fun _ => ?_
  rw [he (by omega)]

/-- What a write outside plain storage does, band by band. -/
theorem writeByte_bands {a : Word} {v : Byte} {s w : State} (h : writeByte a v s = .next w) :
    ((a.toNat ≤ 0x7FFF ∨ (0xA000 ≤ a.toNat ∧ a.toNat ≤ 0xBFFF)) ∧ w = { s with cart := cartWrite a.toNat v s.cart }) ∨
      (plainRam a = true ∧ w = { s with ram := memSet (ramKey a) v s.ram }) ∨
      ((0xFF00 ≤ a.toNat ∧ a.toNat ≤ 0xFF7F) ∧ w = ioWrite v (ioReg a.toNat) s) ∨
      (a.toNat = 0xFFFF ∧ w = { s with intEnable := v.extractLsb' 0 5 }) := by
  have hlt := a.isLt
  by_cases hp : plainRam a = true
  · rw [writeByte_plainRam v s hp] at h
    cases h
    exact .inr (.inl ⟨hp, rfl⟩)
  unfold plainRam at hp
  simp only [Bool.or_eq_true, Bool.and_eq_true, decide_eq_true_eq] at hp
  unfold writeByte at h
  dsimp only at h
  by_cases h1 : a.toNat ≤ 0x7FFF
  · rw [if_pos h1] at h
    cases h
    exact .inl ⟨.inl h1, rfl⟩
  rw [if_neg h1] at h
  by_cases h2 : a.toNat ≤ 0x9FFF
  · omega
  rw [if_neg h2] at h
  by_cases h3 : a.toNat ≤ 0xBFFF
  · rw [if_pos h3] at h
    cases h
    exact .inl ⟨.inr ⟨by omega, h3⟩, rfl⟩
  rw [if_neg h3, if_neg (by omega), if_neg (by omega), if_neg (by omega)] at h
  by_cases h4 : a.toNat ≤ 0xFEFF
  · rw [if_pos h4] at h
    cases h
  rw [if_neg h4] at h
  by_cases h5 : a.toNat ≤ 0xFF7F
  · rw [if_pos h5] at h
    cases h
    exact .inr (.inr (.inl ⟨⟨by omega, h5⟩, rfl⟩))
  rw [if_neg h5, if_neg (by omega)] at h
  cases h
  exact .inr (.inr (.inr ⟨by omega, rfl⟩))

/-- A store leaves every byte it does not disturb. -/
theorem writeByte_peek {a a' : Word} {v d : Byte} {s w : State} (h : writeByte a v s = .next w)
    (hd : disturbs s a a' = false) : peek d a' w = peek d a' s := by
  have hlt := a.isLt
  have hlt' := a'.isLt
  unfold disturbs at hd
  simp only [Bool.or_eq_false_iff, Bool.and_eq_false_iff, decide_eq_false_iff_not] at hd
  obtain ⟨⟨hkey, hbank⟩, hboot⟩ := hd
  have hne : a'.toNat ≠ a.toNat := by
    intro he
    unfold ramKey at hkey
    rw [he] at hkey
    exact hkey rfl
  obtain ⟨h1, rfl⟩ | ⟨h1, rfl⟩ | ⟨h1, rfl⟩ | ⟨h1, rfl⟩ := writeByte_bands h
  · refine peek_ext (fun _ => rfl) ?_ (fun _ => rfl) (fun _ _ => rfl) (fun _ => rfl)
    refine cartRead_cartWrite h1 hne fun hv hn => ?_
    rw [hv] at hbank
    simp only [not_true, false_or] at hbank
    clear hkey hboot
    omega
  · refine peek_ext (fun _ => rfl) (fun _ => rfl) (fun _ => ?_) (fun _ _ => rfl) (fun _ => rfl)
    rw [ramGet_memSet, if_neg fun e => hkey e.symm]
  · obtain ⟨e1, e2, e3⟩ := ioWrite_shape v (ioReg a.toNat) s
    refine peek_ext (fun hb => ?_) (fun _ => by rw [e1]) (fun _ => by rw [e2])
      (fun _ _ => ioRead_ioWrite hne) (fun _ => e3)
    refine ioWrite_bootLatch ?_
    clear hkey hbank
    omega
  · exact peek_ext (fun _ => rfl) (fun _ => rfl) (fun _ => rfl) (fun _ _ => rfl) (fun hf => by omega)

end Sys2Proof.Machine
end

