-- ==== Sys2Proof/Laws/Stack.lean ====
section
/-! SUPPORT. Fetch, push and pop, said once (00_scope.md R16; 40_loads.md R222, R223). -/

namespace Sys2Proof.Machine

theorem sub_one_sub_one (v : Word) : v - 1#16 - 1#16 = v - 2#16 := by bv_omega

theorem add_one_add_one (v : Word) : v + 1#16 + 1#16 = v + 2#16 := by bv_omega

theorem writeByte_sp {a : Word} {v : Byte} {s w : State} (h : writeByte a v s = .next w) : w.sp = s.sp := by
  rw [writeByte_shape h]

theorem writeByte_regs {a : Word} {v : Byte} {s w : State} (h : writeByte a v s = .next w) : w.regs = s.regs := by
  rw [writeByte_shape h]

theorem writeByte_pc {a : Word} {v : Byte} {s w : State} (h : writeByte a v s = .next w) : w.pc = s.pc := by
  rw [writeByte_shape h]

theorem writeByte_draws {a : Word} {v : Byte} {s w : State} (h : writeByte a v s = .next w) : w.draws = s.draws := by
  rw [writeByte_shape h]

/-- A write does not look at the flags and leaves them. -/
theorem writeByte_flags {a : Word} {v : Byte} {s w : State} (x : Flags) (h : writeByte a v s = .next w) :
    writeByte a v { s with f := x } = .next { w with f := x } := by
  obtain ⟨w', h'⟩ := writeByte_mapped v { s with f := x } (mapped_of_writeByte h)
  rw [h']
  obtain ⟨h1, rfl⟩ | ⟨h1, rfl⟩ | ⟨h1, rfl⟩ | ⟨h1, rfl⟩ := writeByte_bands h
  · obtain ⟨_, rfl⟩ | ⟨h2, _⟩ | ⟨h2, _⟩ | ⟨h2, _⟩ := writeByte_bands h'
    · rfl
    · simp only [plainRam, Bool.or_eq_true, Bool.and_eq_true, decide_eq_true_eq] at h2; omega
    · omega
    · omega
  · rw [writeByte_plainRam v _ h1] at h'
    cases h'
    rfl
  · obtain ⟨h2, _⟩ | ⟨h2, _⟩ | ⟨_, rfl⟩ | ⟨h2, _⟩ := writeByte_bands h'
    · omega
    · simp only [plainRam, Bool.or_eq_true, Bool.and_eq_true, decide_eq_true_eq] at h2; omega
    · unfold ioWrite
      split <;> rfl
    · omega
  · obtain ⟨h2, _⟩ | ⟨h2, _⟩ | ⟨h2, _⟩ | ⟨_, rfl⟩ := writeByte_bands h'
    · omega
    · simp only [plainRam, Bool.or_eq_true, Bool.and_eq_true, decide_eq_true_eq] at h2; omega
    · omega
    · rfl

theorem push16_eq {v : Word} {s w1 w2 : State}
    (h1 : writeByte (s.sp - 1#16) (hiByte v) { s with sp := s.sp - 1#16 } = .next w1)
    (h2 : writeByte (s.sp - 2#16) (loByte v) { w1 with sp := s.sp - 2#16 } = .next w2) : push16 v s = .next w2 := by
  unfold push16 pushByte
  rw [h1]
  show writeByte (w1.sp - 1#16) _ { w1 with sp := w1.sp - 1#16 } = _
  rw [writeByte_sp h1]
  show writeByte (s.sp - 1#16 - 1#16) _ { w1 with sp := s.sp - 1#16 - 1#16 } = _
  rw [sub_one_sub_one]
  exact h2

theorem push16_high {v : Word} {s : State} (h : mapped (s.sp - 1#16) = false) :
    push16 v s = raise (.unimplementedAddress (s.sp - 1#16) .write s.pc) { s with sp := s.sp - 1#16 } := by
  unfold push16 pushByte
  rw [writeByte_unmapped _ _ h]
  rfl

theorem push16_low {v : Word} {s w1 : State}
    (h1 : writeByte (s.sp - 1#16) (hiByte v) { s with sp := s.sp - 1#16 } = .next w1)
    (h2 : mapped (s.sp - 2#16) = false) :
    push16 v s = raise (.unimplementedAddress (s.sp - 2#16) .write w1.pc) { w1 with sp := s.sp - 2#16 } := by
  unfold push16 pushByte
  rw [h1]
  show writeByte (w1.sp - 1#16) _ { w1 with sp := w1.sp - 1#16 } = _
  rw [writeByte_sp h1]
  show writeByte (s.sp - 1#16 - 1#16) _ { w1 with sp := s.sp - 1#16 - 1#16 } = _
  rw [sub_one_sub_one, writeByte_unmapped _ _ h2]

theorem popByte_eq {s : State} {v : Byte} (h : peek (Config.freeByte s.draws) s.sp s = some v) :
    popByte s = .next (v, { s with sp := s.sp + 1#16, draws := s.draws + 1 }) := by
  unfold popByte
  rw [readByte_of_peek h]
  rfl

theorem popByte_unmapped {s : State} (h : mapped s.sp = false) :
    popByte s = raise (.unimplementedAddress s.sp .read s.pc) s := by
  unfold popByte
  rw [readByte_unmapped s h]
  rfl

theorem pop16_eq {s : State} {lo hi : Byte} (h1 : peek (Config.freeByte s.draws) s.sp s = some lo)
    (h2 : peek (Config.freeByte (s.draws + 1)) (s.sp + 1#16) s = some hi) :
    pop16 s = .next (wordOf hi lo, { s with sp := s.sp + 2#16, draws := s.draws + 2 }) := by
  unfold pop16
  rw [popByte_eq h1]
  show andThen (popByte { s with sp := s.sp + 1#16, draws := s.draws + 1 }) _ = _
  rw [popByte_eq (v := hi) (h2 ▸ peek_congr rfl rfl rfl rfl rfl rfl rfl rfl)]
  rw [← add_one_add_one]
  rfl

theorem pop16_low {s : State} (h : mapped s.sp = false) :
    pop16 s = raise (.unimplementedAddress s.sp .read s.pc) s := by
  unfold pop16
  rw [popByte_unmapped h]
  rfl

theorem pop16_high {s : State} {lo : Byte} (h1 : peek (Config.freeByte s.draws) s.sp s = some lo)
    (h2 : mapped (s.sp + 1#16) = false) :
    pop16 s =
      raise (.unimplementedAddress (s.sp + 1#16) .read s.pc)
        { s with sp := s.sp + 1#16, draws := s.draws + 1 } := by
  unfold pop16
  rw [popByte_eq h1]
  show andThen (popByte { s with sp := s.sp + 1#16, draws := s.draws + 1 }) _ = _
  rw [popByte_unmapped h2]
  rfl

/-- `Fetch8` (R16): the byte at PC, and PC one further. -/
theorem fetch8_eq {s : State} {v : Byte} (h : peek (Config.freeByte s.draws) s.pc s = some v) :
    fetch8 s = .next (v, { s with pc := s.pc + 1#16, draws := s.draws + 1 }) := by
  unfold fetch8
  rw [readByte_of_peek h]
  rfl

theorem fetch8_unmapped {s : State} (h : mapped s.pc = false) :
    fetch8 s = raise (.unimplementedAddress s.pc .read s.pc) s := by
  unfold fetch8
  rw [readByte_unmapped s h]
  rfl

/-- A fetch that answers was of the byte at PC. -/
theorem fetch8_next {s : State} {r : Byte × State} (h : fetch8 s = .next r) :
    peek (Config.freeByte s.draws) s.pc s = some r.1 ∧ r.2 = { s with pc := s.pc + 1#16, draws := s.draws + 1 } := by
  obtain ⟨x, h1, h2⟩ := andThen_eq_next h
  obtain ⟨h3, h4⟩ := readByte_eq_next.1 h1
  cases h2
  exact ⟨h3, by rw [h4]⟩

end Sys2Proof.Machine
end

