-- ==== Sys2Proof/Laws/Exec.lean ====
section
/-! SUPPORT. Everything an instruction can do to the state, said once: a property that the named updates keep is kept by every instruction. -/

namespace Sys2Proof.Machine

/-- A property of the state kept by every update an instruction makes before its count is set, where it stores
only at `ts`. The five instructions that change IME, its pending change, `halted` or `stopped` do more (`controls`). -/
structure Closed (ts : List Word) (P : State → Prop) : Prop where
  regs : ∀ s x, P s → P { s with regs := x }
  f : ∀ s x, P s → P { s with f := x }
  sp : ∀ s x, P s → P { s with sp := x }
  pc : ∀ s x, P s → P { s with pc := x }
  draws : ∀ s x, P s → P { s with draws := x }
  write : ∀ a v s w, a ∈ ts → writeByte a v s = .next w → P s → P w

/-- The instructions that write IME, its pending change, `halted` or `stopped` (10_state.md R50, R53, R54). -/
def controls (i : Instr) : Bool :=
  match i with
  | .di => true
  | .ei => true
  | .reti => true
  | .halt => true
  | .stop _ => true
  | _ => false

/-- The counts an instruction can return (30_encoding.md R189). -/
def cycleCounts : List Nat := [4, 8, 12, 16, 20, 24]

/-- A state that has the property, but for the count the instruction returned. -/
def Counted (P : State → Prop) (t : State) : Prop := ∃ u n, P u ∧ n ∈ cycleCounts ∧ t = { u with cycles := n }

theorem srcCycles_mem (src : Src) : srcCycles src ∈ cycleCounts := by
  cases src
  · exact List.mem_cons_self ..
  · exact List.mem_cons_of_mem _ (List.mem_cons_self ..)
  · exact List.mem_cons_of_mem _ (List.mem_cons_self ..)

theorem locCycles_mem (l : Loc) {m n : Nat} (hm : m ∈ cycleCounts) (hn : n ∈ cycleCounts) :
    locCycles l m n ∈ cycleCounts := by
  cases l
  · exact hm
  · exact hn

section

variable {ts : List Word} {P : State → Prop} {s t : State}

theorem Closed.setReg (hc : Closed ts P) (r : Reg8) (v : Byte) (h : P s) : P (s.setReg r v) := hc.regs _ _ h

theorem Closed.setPair (hc : Closed ts P) (p : Rp) (v : Word) (h : P s) : P (s.setPair p v) := by
  cases p
  · exact hc.regs _ _ h
  · exact hc.regs _ _ h
  · exact hc.regs _ _ h
  · exact hc.sp _ _ h

theorem Closed.setPair2 (hc : Closed ts P) (p : Rp2) (v : Word) (h : P s) : P (s.setPair2 p v) := by
  cases p
  · exact hc.regs _ _ h
  · exact hc.regs _ _ h
  · exact hc.regs _ _ h
  · exact hc.f _ _ (hc.regs _ _ h)

theorem Counted.done {n : Nat} (h : P s) (e : done n s = .next t) (hn : n ∈ cycleCounts := by decide) :
    Counted P t := ⟨s, n, h, hn, done_eq_next e⟩

theorem Closed.readByte (hc : Closed ts P) {a : Word} {r : Byte × State} (h : P s) (e : readByte a s = .next r) :
    P r.2 := by
  rw [(readByte_eq_next.1 e).2]
  exact hc.draws _ _ h

theorem Closed.ldRegInd (hc : Closed ts P) {dst : Reg8} (h : P s) (e : ldRegInd dst s = .next t) : Counted P t := by
  obtain ⟨r, e1, e2⟩ := andThen_eq_next e
  exact Counted.done (hc.setReg _ _ (hc.readByte h e1)) e2

theorem Closed.store (hc : Closed ts P) {a : Word} {v : Byte} {n : Nat} {g : State → State} (ha : a ∈ ts) (h : P s)
    (hg : ∀ w, P w → P (g w)) (e : andThen (writeByte a v s) (fun w => Machine.done n (g w)) = .next t)
    (hn : n ∈ cycleCounts := by decide) : Counted P t := by
  obtain ⟨w, e1, e2⟩ := andThen_eq_next e
  exact Counted.done (hg _ (hc.write _ _ _ _ ha e1 h)) e2 hn

theorem Closed.ptrStep (hc : Closed ts P) (p : Ptr) (h : P s) : P (ptrStep p s) := by
  cases p
  · exact h
  · exact h
  · exact hc.setPair .hl (s.hl + 1#16) h
  · exact hc.setPair .hl (s.hl - 1#16) h

theorem Closed.ldAPtr (hc : Closed ts P) {p : Ptr} (h : P s) (e : ldAPtr p s = .next t) : Counted P t := by
  obtain ⟨r, e1, e2⟩ := andThen_eq_next e
  exact Counted.done (hc.ptrStep _ (hc.setReg _ _ (hc.readByte h e1))) e2

theorem Closed.stAPtr (hc : Closed ts P) {p : Ptr} (ha : ptrAddr p s ∈ ts) (h : P s) (e : stAPtr p s = .next t) :
    Counted P t := hc.store (g := Machine.ptrStep p) ha h (fun _ => hc.ptrStep p) e

theorem Closed.stInd (hc : Closed ts P) {r : Reg8} (ha : s.hl ∈ ts) (h : P s) (e : stInd r s = .next t) : Counted P t :=
  hc.store (g := id) ha h (fun _ => id) e

theorem Closed.stIndImm (hc : Closed ts P) {v : Byte} (ha : s.hl ∈ ts) (h : P s) (e : stIndImm v s = .next t) : Counted P t :=
  hc.store (g := id) ha h (fun _ => id) e

theorem Closed.storeA (hc : Closed ts P) {a : Word} {n : Nat} (ha : a ∈ ts) (h : P s) (e : storeA a n s = .next t)
    (hn : n ∈ cycleCounts := by decide) : Counted P t := hc.store (g := id) ha h (fun _ => id) e hn

theorem Closed.loadA (hc : Closed ts P) {a : Word} {n : Nat} (h : P s) (e : loadA a n s = .next t)
    (hn : n ∈ cycleCounts := by decide) : Counted P t := by
  obtain ⟨r, e1, e2⟩ := andThen_eq_next e
  exact Counted.done (hc.setReg _ _ (hc.readByte h e1)) e2 hn

theorem Closed.storeSp (hc : Closed ts P) {a : Word} (ha : a ∈ ts) (ha' : a + 1#16 ∈ ts) (h : P s)
    (e : storeSp a s = .next t) : Counted P t := by
  obtain ⟨w, e1, e2⟩ := andThen_eq_next e
  obtain ⟨u, e3, e4⟩ := andThen_eq_next e1
  exact Counted.done (hc.write _ _ _ _ ha' e4 (hc.write _ _ _ _ ha e3 h)) e2

theorem Closed.push16 (hc : Closed ts P) {v : Word} (hts : ∀ a ∈ pushSlots s, a ∈ ts) (h : P s)
    (e : push16 v s = .next t) : P t := by
  obtain ⟨w, e1, e2⟩ := andThen_eq_next e
  have hsp : w.sp = s.sp - 1#16 := by
    have := writeByte_shape e1
    rw [this]
  have hw := hc.write _ _ _ _ (hts _ (List.mem_cons_self ..)) e1 (hc.sp _ _ h)
  refine hc.write _ _ _ _ (hts _ ?_) e2 (hc.sp _ _ hw)
  have h2 : w.sp - 1#16 = s.sp - 2#16 := by
    rw [hsp]
    bv_omega
  rw [h2]
  exact List.mem_cons_of_mem _ (List.mem_cons_self ..)

theorem Closed.pop16 (hc : Closed ts P) {r : Word × State} (h : P s) (e : pop16 s = .next r) : P r.2 := by
  obtain ⟨lo, e1, e2⟩ := andThen_eq_next e
  obtain ⟨hi, e3, e4⟩ := andThen_eq_next e2
  obtain ⟨x, e5, e6⟩ := andThen_eq_next e1
  obtain ⟨y, e7, e8⟩ := andThen_eq_next e3
  cases e4
  cases e6
  cases e8
  exact hc.sp _ _ (hc.readByte (hc.sp _ _ (hc.readByte h e5)) e7)

theorem Closed.push (hc : Closed ts P) {p : Rp2} (hts : ∀ a ∈ pushSlots s, a ∈ ts) (h : P s)
    (e : push p s = .next t) : Counted P t := by
  obtain ⟨w, e1, e2⟩ := andThen_eq_next e
  exact Counted.done (hc.push16 hts h e1) e2

theorem Closed.pop (hc : Closed ts P) {p : Rp2} (h : P s) (e : pop p s = .next t) : Counted P t := by
  obtain ⟨w, e1, e2⟩ := andThen_eq_next e
  exact Counted.done (hc.setPair2 _ _ (hc.pop16 h e1)) e2

theorem Closed.callTo (hc : Closed ts P) {v : Word} {n : Nat} (hts : ∀ a ∈ pushSlots s, a ∈ ts) (h : P s)
    (e : callTo v n s = .next t)
    (hn : n ∈ cycleCounts := by decide) : Counted P t := by
  obtain ⟨w, e1, e2⟩ := andThen_eq_next e
  exact Counted.done (hc.pc _ _ (hc.push16 hts h e1)) e2 hn

theorem Closed.callIf (hc : Closed ts P) {cc : Cond} {v : Word}
    (hts : condHolds cc s.f = true → ∀ a ∈ pushSlots s, a ∈ ts) (h : P s) (e : callIf cc v s = .next t) : Counted P t := by
  unfold Machine.callIf at e
  split at e
  · exact hc.callTo (hts (by assumption)) h e
  · exact Counted.done h e

theorem mem_taken {c : Bool} {a : Word} (hc : c = true) (ha : a ∈ pushSlots s) :
    a ∈ (if c then pushSlots s else []) := by
  rw [if_pos hc]
  exact ha

theorem Closed.jumpIf (hc : Closed ts P) {cc : Cond} {v : Word} {m n : Nat} (h : P s)
    (e : jumpIf cc v m n s = .next t)
    (hm : m ∈ cycleCounts := by decide)
    (hn : n ∈ cycleCounts := by decide) : Counted P t := by
  unfold Machine.jumpIf at e
  split at e
  · exact Counted.done (hc.pc _ _ h) e hm
  · exact Counted.done h e hn

theorem Closed.returnTo (hc : Closed ts P) {n : Nat} (h : P s) (e : returnTo n s = .next t)
    (hn : n ∈ cycleCounts := by decide) : Counted P t := by
  obtain ⟨w, e1, e2⟩ := andThen_eq_next e
  exact Counted.done (hc.pc _ _ (hc.pop16 h e1)) e2 hn

theorem Closed.returnIf (hc : Closed ts P) {cc : Cond} (h : P s) (e : returnIf cc s = .next t) : Counted P t := by
  unfold Machine.returnIf at e
  split at e
  · exact hc.returnTo h e
  · exact Counted.done h e


theorem Closed.aluOnA (hc : Closed ts P) {op : AluOp} {src : Src} (h : P s) (e : aluOnA op src s = .next t) : Counted P t := by
  obtain ⟨r, e1, e2⟩ := andThen_eq_next e
  refine Counted.done (hc.f _ _ (hc.setReg _ _ ?_)) e2 (srcCycles_mem src)
  cases src
  · cases e1
    exact h
  · exact hc.readByte h e1
  · cases e1
    exact h

theorem Closed.modifyLoc (hc : Closed ts P) {l : Loc} {g : Byte → Flags → Alu8} {n : Nat}
    (ha : l = .indHl → s.hl ∈ ts) (h : P s) (e : modifyLoc l g n s = .next t)
    (hn : n ∈ cycleCounts := by decide) : Counted P t := by
  obtain ⟨r, e1, e2⟩ := andThen_eq_next e
  obtain ⟨w, e3, e4⟩ := andThen_eq_next e2
  refine Counted.done ?_ e4 hn
  cases l
  · cases e1
    cases e3
    exact hc.setReg _ _ (hc.f _ _ h)
  · have hhl : r.2.hl = s.hl := by
      rw [(readByte_eq_next.1 e1).2]
      rfl
    have hw := hc.write r.2.hl (g r.1 r.2.f).val { r.2 with f := (g r.1 r.2.f).f } w (hhl ▸ ha rfl) e3
    exact hw (hc.f r.2 _ (hc.readByte h e1))

theorem Closed.shiftLoc (hc : Closed ts P) {op : ShiftOp} {l : Loc} (ha : l = .indHl → s.hl ∈ ts) (h : P s)
    (e : shiftLoc op l s = .next t) : Counted P t :=
  hc.modifyLoc ha h e (locCycles_mem _ (by decide) (by decide))

theorem Closed.clearBit (hc : Closed ts P) {b : Oct} {l : Loc} (ha : l = .indHl → s.hl ∈ ts) (h : P s)
    (e : clearBit b l s = .next t) : Counted P t :=
  hc.modifyLoc ha h e (locCycles_mem _ (by decide) (by decide))

theorem Closed.raiseBit (hc : Closed ts P) {b : Oct} {l : Loc} (ha : l = .indHl → s.hl ∈ ts) (h : P s)
    (e : raiseBit b l s = .next t) : Counted P t :=
  hc.modifyLoc ha h e (locCycles_mem _ (by decide) (by decide))

theorem Closed.testBit (hc : Closed ts P) {b : Oct} {l : Loc} (h : P s) (e : testBit b l s = .next t) : Counted P t := by
  obtain ⟨r, e1, e2⟩ := andThen_eq_next e
  refine Counted.done (hc.f _ _ ?_) e2 (locCycles_mem l (by decide) (by decide))
  cases l
  · cases e1
    exact h
  · exact hc.readByte h e1

theorem Closed.extended (hc : Closed ts P) (hts : ∀ a ∈ extendedTargets s, a ∈ ts) (h : P s)
    (e : extended s = .next t) : Counted P t := by
  obtain ⟨r, e1, e2⟩ := andThen_eq_next e
  obtain ⟨x, e3, e4⟩ := andThen_eq_next e1
  obtain ⟨hp, hx⟩ := readByte_eq_next.1 e3
  cases e4
  have hr : P { x.2 with pc := x.2.pc + 1#16 } := hc.pc _ _ (hc.readByte h e3)
  have hhl : ({ x.2 with pc := x.2.pc + 1#16 } : State).hl = s.hl := by rw [hx]; rfl
  dsimp only at e2
  have hloc : locOf (x.1.toNat % 8) = .indHl → x.1.toNat / 64 ≠ 1 → s.hl ∈ ts := by
    intro hl hne
    refine hts _ ?_
    unfold extendedTargets
    rw [hp]
    dsimp only
    rw [if_pos, List.mem_singleton]
    refine ⟨?_, hne⟩
    have : x.1.toNat % 8 < 8 := Nat.mod_lt _ (by decide)
    generalize x.1.toNat % 8 = k at hl this
    match k, this, hl with
    | 6, _, _ => rfl
  unfold extendedRow at e2
  dsimp only at e2
  split at e2
  · rename_i h0
    exact hc.modifyLoc (fun hl => hhl ▸ hloc hl (by omega)) hr e2 (locCycles_mem _ (by decide) (by decide))
  · exact hc.testBit hr e2
  · rename_i h0
    exact hc.modifyLoc (fun hl => hhl ▸ hloc hl (by omega)) hr e2 (locCycles_mem _ (by decide) (by decide))
  · exact hc.modifyLoc (fun hl => hhl ▸ hloc hl (by assumption)) hr e2 (locCycles_mem _ (by decide) (by decide))

/-- Every instruction that controls neither interrupts nor power keeps a property that its updates keep, and
returns one of the six counts. -/
theorem exec_keeps {i : Instr} (hc : Closed (storeTargets i s) P) (hn : controls i = false) (h : P s)
    (e : exec i s = .next t) : Counted P t := by
  cases i with
  | nop => exact Counted.done h e
  | ldBcD16 | incBc | decBc | ldDeD16 | incDe | decDe | ldHlD16 | incHl | decHl | ldSpD16 | incSp | decSp => exact Counted.done (hc.setPair _ _ h) e
  | ldIndBcA | ldIndDeA | ldIndHlIncA | ldIndHlDecA => exact hc.stAPtr (List.mem_singleton.2 rfl) h e
  | incB => exact hc.modifyLoc (l := (.reg .b)) (g := inc8) (n := 4) (by nofun) h e
  | decB => exact hc.modifyLoc (l := (.reg .b)) (g := dec8) (n := 4) (by nofun) h e
  | ldBD8 | ldCD8 | ldDD8 | ldED8 | ldHD8 | ldLD8 | ldAD8 | ldBB | ldBC | ldBD | ldBE | ldBH | ldBL | ldBA
  | ldCB | ldCC | ldCD | ldCE | ldCH | ldCL | ldCA | ldDB | ldDC | ldDD | ldDE | ldDH | ldDL | ldDA | ldEB
  | ldEC | ldED | ldEE | ldEH | ldEL | ldEA | ldHB | ldHC | ldHD | ldHE | ldHH | ldHL | ldHA | ldLB | ldLC
  | ldLD | ldLE | ldLH | ldLL | ldLA | ldAB | ldAC | ldAD | ldAE | ldAH | ldAL | ldAA => exact Counted.done (hc.setReg _ _ h) e
  | rlca | rrca | rla | rra | daa | cpl => exact Counted.done (hc.f _ _ (hc.setReg .a _ h)) e
  | ldIndA16Sp => exact hc.storeSp (List.mem_cons_self ..) (List.mem_cons_of_mem _ (List.mem_cons_self ..)) h e
  | addHlBc | addHlDe | addHlHl | addHlSp | ldHlSpE8 => exact Counted.done (hc.f _ _ (hc.setPair .hl _ h)) e
  | ldAIndBc | ldAIndDe | ldAIndHlInc | ldAIndHlDec => exact hc.ldAPtr h e
  | incC => exact hc.modifyLoc (l := (.reg .c)) (g := inc8) (n := 4) (by nofun) h e
  | decC => exact hc.modifyLoc (l := (.reg .c)) (g := dec8) (n := 4) (by nofun) h e
  | stop | halt | reti | di | ei => exact nomatch hn
  | incD => exact hc.modifyLoc (l := (.reg .d)) (g := inc8) (n := 4) (by nofun) h e
  | decD => exact hc.modifyLoc (l := (.reg .d)) (g := dec8) (n := 4) (by nofun) h e
  | jrE8 | jpA16 | jpHl => exact Counted.done (hc.pc _ _ h) e
  | incE => exact hc.modifyLoc (l := (.reg .e)) (g := inc8) (n := 4) (by nofun) h e
  | decE => exact hc.modifyLoc (l := (.reg .e)) (g := dec8) (n := 4) (by nofun) h e
  | jrNzE8 | jrZE8 | jrNcE8 | jrCE8 | jpNzA16 | jpZA16 | jpNcA16 | jpCA16 => exact hc.jumpIf h e
  | incH => exact hc.modifyLoc (l := (.reg .h)) (g := inc8) (n := 4) (by nofun) h e
  | decH => exact hc.modifyLoc (l := (.reg .h)) (g := dec8) (n := 4) (by nofun) h e
  | incL => exact hc.modifyLoc (l := (.reg .l)) (g := inc8) (n := 4) (by nofun) h e
  | decL => exact hc.modifyLoc (l := (.reg .l)) (g := dec8) (n := 4) (by nofun) h e
  | incIndHl => exact hc.modifyLoc (l := .indHl) (g := inc8) (n := 12) (fun _ => (List.mem_singleton.2 rfl)) h e
  | decIndHl => exact hc.modifyLoc (l := .indHl) (g := dec8) (n := 12) (fun _ => (List.mem_singleton.2 rfl)) h e
  | ldIndHlD8 => exact hc.stIndImm (List.mem_singleton.2 rfl) h e
  | scf | ccf => exact Counted.done (hc.f _ _ h) e
  | incA => exact hc.modifyLoc (l := (.reg .a)) (g := inc8) (n := 4) (by nofun) h e
  | decA => exact hc.modifyLoc (l := (.reg .a)) (g := dec8) (n := 4) (by nofun) h e
  | ldBIndHl | ldCIndHl | ldDIndHl | ldEIndHl | ldHIndHl | ldLIndHl | ldAIndHl => exact hc.ldRegInd h e
  | ldIndHlB | ldIndHlC | ldIndHlD | ldIndHlE | ldIndHlH | ldIndHlL | ldIndHlA => exact hc.stInd (List.mem_singleton.2 rfl) h e
  | addAB => exact hc.aluOnA (op := .add) (src := (.reg .b)) h e
  | addAC => exact hc.aluOnA (op := .add) (src := (.reg .c)) h e
  | addAD => exact hc.aluOnA (op := .add) (src := (.reg .d)) h e
  | addAE => exact hc.aluOnA (op := .add) (src := (.reg .e)) h e
  | addAH => exact hc.aluOnA (op := .add) (src := (.reg .h)) h e
  | addAL => exact hc.aluOnA (op := .add) (src := (.reg .l)) h e
  | addAIndHl => exact hc.aluOnA (op := .add) (src := .indHl) h e
  | addAA => exact hc.aluOnA (op := .add) (src := (.reg .a)) h e
  | adcAB => exact hc.aluOnA (op := .adc) (src := (.reg .b)) h e
  | adcAC => exact hc.aluOnA (op := .adc) (src := (.reg .c)) h e
  | adcAD => exact hc.aluOnA (op := .adc) (src := (.reg .d)) h e
  | adcAE => exact hc.aluOnA (op := .adc) (src := (.reg .e)) h e
  | adcAH => exact hc.aluOnA (op := .adc) (src := (.reg .h)) h e
  | adcAL => exact hc.aluOnA (op := .adc) (src := (.reg .l)) h e
  | adcAIndHl => exact hc.aluOnA (op := .adc) (src := .indHl) h e
  | adcAA => exact hc.aluOnA (op := .adc) (src := (.reg .a)) h e
  | subB => exact hc.aluOnA (op := .sub) (src := (.reg .b)) h e
  | subC => exact hc.aluOnA (op := .sub) (src := (.reg .c)) h e
  | subD => exact hc.aluOnA (op := .sub) (src := (.reg .d)) h e
  | subE => exact hc.aluOnA (op := .sub) (src := (.reg .e)) h e
  | subH => exact hc.aluOnA (op := .sub) (src := (.reg .h)) h e
  | subL => exact hc.aluOnA (op := .sub) (src := (.reg .l)) h e
  | subIndHl => exact hc.aluOnA (op := .sub) (src := .indHl) h e
  | subA => exact hc.aluOnA (op := .sub) (src := (.reg .a)) h e
  | sbcAB => exact hc.aluOnA (op := .sbc) (src := (.reg .b)) h e
  | sbcAC => exact hc.aluOnA (op := .sbc) (src := (.reg .c)) h e
  | sbcAD => exact hc.aluOnA (op := .sbc) (src := (.reg .d)) h e
  | sbcAE => exact hc.aluOnA (op := .sbc) (src := (.reg .e)) h e
  | sbcAH => exact hc.aluOnA (op := .sbc) (src := (.reg .h)) h e
  | sbcAL => exact hc.aluOnA (op := .sbc) (src := (.reg .l)) h e
  | sbcAIndHl => exact hc.aluOnA (op := .sbc) (src := .indHl) h e
  | sbcAA => exact hc.aluOnA (op := .sbc) (src := (.reg .a)) h e
  | andB => exact hc.aluOnA (op := .and) (src := (.reg .b)) h e
  | andC => exact hc.aluOnA (op := .and) (src := (.reg .c)) h e
  | andD => exact hc.aluOnA (op := .and) (src := (.reg .d)) h e
  | andE => exact hc.aluOnA (op := .and) (src := (.reg .e)) h e
  | andH => exact hc.aluOnA (op := .and) (src := (.reg .h)) h e
  | andL => exact hc.aluOnA (op := .and) (src := (.reg .l)) h e
  | andIndHl => exact hc.aluOnA (op := .and) (src := .indHl) h e
  | andA => exact hc.aluOnA (op := .and) (src := (.reg .a)) h e
  | xorB => exact hc.aluOnA (op := .xor) (src := (.reg .b)) h e
  | xorC => exact hc.aluOnA (op := .xor) (src := (.reg .c)) h e
  | xorD => exact hc.aluOnA (op := .xor) (src := (.reg .d)) h e
  | xorE => exact hc.aluOnA (op := .xor) (src := (.reg .e)) h e
  | xorH => exact hc.aluOnA (op := .xor) (src := (.reg .h)) h e
  | xorL => exact hc.aluOnA (op := .xor) (src := (.reg .l)) h e
  | xorIndHl => exact hc.aluOnA (op := .xor) (src := .indHl) h e
  | xorA => exact hc.aluOnA (op := .xor) (src := (.reg .a)) h e
  | orB => exact hc.aluOnA (op := .or) (src := (.reg .b)) h e
  | orC => exact hc.aluOnA (op := .or) (src := (.reg .c)) h e
  | orD => exact hc.aluOnA (op := .or) (src := (.reg .d)) h e
  | orE => exact hc.aluOnA (op := .or) (src := (.reg .e)) h e
  | orH => exact hc.aluOnA (op := .or) (src := (.reg .h)) h e
  | orL => exact hc.aluOnA (op := .or) (src := (.reg .l)) h e
  | orIndHl => exact hc.aluOnA (op := .or) (src := .indHl) h e
  | orA => exact hc.aluOnA (op := .or) (src := (.reg .a)) h e
  | cpB => exact hc.aluOnA (op := .cp) (src := (.reg .b)) h e
  | cpC => exact hc.aluOnA (op := .cp) (src := (.reg .c)) h e
  | cpD => exact hc.aluOnA (op := .cp) (src := (.reg .d)) h e
  | cpE => exact hc.aluOnA (op := .cp) (src := (.reg .e)) h e
  | cpH => exact hc.aluOnA (op := .cp) (src := (.reg .h)) h e
  | cpL => exact hc.aluOnA (op := .cp) (src := (.reg .l)) h e
  | cpIndHl => exact hc.aluOnA (op := .cp) (src := .indHl) h e
  | cpA => exact hc.aluOnA (op := .cp) (src := (.reg .a)) h e
  | retNz | retZ | retNc | retC => exact hc.returnIf h e
  | popBc | popDe | popHl | popAf => exact hc.pop h e
  | callNzA16 | callZA16 | callNcA16 | callCA16 => exact hc.callIf (fun hcc _ => mem_taken hcc) h e
  | pushBc | pushDe | pushHl | pushAf => exact hc.push (fun _ => id) h e
  | addAD8 => exact hc.aluOnA (op := .add) (src := (.imm _)) h e
  | rst00 | callA16 | rst08 | rst10 | rst18 | rst20 | rst28 | rst30 | rst38 => exact hc.callTo (fun _ => id) h e
  | ret => exact hc.returnTo h e
  | prefixCb => exact hc.extended (fun _ => id) h e
  | adcAD8 => exact hc.aluOnA (op := .adc) (src := (.imm _)) h e
  | illegalD3 | illegalDB | illegalDD | illegalE3 | illegalE4 | illegalEB | illegalEC | illegalED | illegalF4
  | illegalFC | illegalFD => exact nomatch e
  | subD8 => exact hc.aluOnA (op := .sub) (src := (.imm _)) h e
  | sbcAD8 => exact hc.aluOnA (op := .sbc) (src := (.imm _)) h e
  | ldhIndA8A | ldIndCA | ldIndA16A => exact hc.storeA (List.mem_singleton.2 rfl) h e
  | andD8 => exact hc.aluOnA (op := .and) (src := (.imm _)) h e
  | addSpE8 => exact Counted.done (hc.f { s with sp := _ } (addSpDisp s.sp _).f (hc.sp s (addSpDisp s.sp _).val h)) e
  | xorD8 => exact hc.aluOnA (op := .xor) (src := (.imm _)) h e
  | ldhAIndA8 | ldAIndC | ldAIndA16 => exact hc.loadA h e
  | orD8 => exact hc.aluOnA (op := .or) (src := (.imm _)) h e
  | ldSpHl => exact Counted.done (hc.sp _ _ h) e
  | cpD8 => exact hc.aluOnA (op := .cp) (src := (.imm _)) h e
  | rlcB => exact hc.shiftLoc (op := .rlc) (l := (.reg .b)) (by nofun) h e
  | rlcC => exact hc.shiftLoc (op := .rlc) (l := (.reg .c)) (by nofun) h e
  | rlcD => exact hc.shiftLoc (op := .rlc) (l := (.reg .d)) (by nofun) h e
  | rlcE => exact hc.shiftLoc (op := .rlc) (l := (.reg .e)) (by nofun) h e
  | rlcH => exact hc.shiftLoc (op := .rlc) (l := (.reg .h)) (by nofun) h e
  | rlcL => exact hc.shiftLoc (op := .rlc) (l := (.reg .l)) (by nofun) h e
  | rlcIndHl => exact hc.shiftLoc (op := .rlc) (l := .indHl) (fun _ => (List.mem_singleton.2 rfl)) h e
  | rlcA => exact hc.shiftLoc (op := .rlc) (l := (.reg .a)) (by nofun) h e
  | rrcB => exact hc.shiftLoc (op := .rrc) (l := (.reg .b)) (by nofun) h e
  | rrcC => exact hc.shiftLoc (op := .rrc) (l := (.reg .c)) (by nofun) h e
  | rrcD => exact hc.shiftLoc (op := .rrc) (l := (.reg .d)) (by nofun) h e
  | rrcE => exact hc.shiftLoc (op := .rrc) (l := (.reg .e)) (by nofun) h e
  | rrcH => exact hc.shiftLoc (op := .rrc) (l := (.reg .h)) (by nofun) h e
  | rrcL => exact hc.shiftLoc (op := .rrc) (l := (.reg .l)) (by nofun) h e
  | rrcIndHl => exact hc.shiftLoc (op := .rrc) (l := .indHl) (fun _ => (List.mem_singleton.2 rfl)) h e
  | rrcA => exact hc.shiftLoc (op := .rrc) (l := (.reg .a)) (by nofun) h e
  | rlB => exact hc.shiftLoc (op := .rl) (l := (.reg .b)) (by nofun) h e
  | rlC => exact hc.shiftLoc (op := .rl) (l := (.reg .c)) (by nofun) h e
  | rlD => exact hc.shiftLoc (op := .rl) (l := (.reg .d)) (by nofun) h e
  | rlE => exact hc.shiftLoc (op := .rl) (l := (.reg .e)) (by nofun) h e
  | rlH => exact hc.shiftLoc (op := .rl) (l := (.reg .h)) (by nofun) h e
  | rlL => exact hc.shiftLoc (op := .rl) (l := (.reg .l)) (by nofun) h e
  | rlIndHl => exact hc.shiftLoc (op := .rl) (l := .indHl) (fun _ => (List.mem_singleton.2 rfl)) h e
  | rlA => exact hc.shiftLoc (op := .rl) (l := (.reg .a)) (by nofun) h e
  | rrB => exact hc.shiftLoc (op := .rr) (l := (.reg .b)) (by nofun) h e
  | rrC => exact hc.shiftLoc (op := .rr) (l := (.reg .c)) (by nofun) h e
  | rrD => exact hc.shiftLoc (op := .rr) (l := (.reg .d)) (by nofun) h e
  | rrE => exact hc.shiftLoc (op := .rr) (l := (.reg .e)) (by nofun) h e
  | rrH => exact hc.shiftLoc (op := .rr) (l := (.reg .h)) (by nofun) h e
  | rrL => exact hc.shiftLoc (op := .rr) (l := (.reg .l)) (by nofun) h e
  | rrIndHl => exact hc.shiftLoc (op := .rr) (l := .indHl) (fun _ => (List.mem_singleton.2 rfl)) h e
  | rrA => exact hc.shiftLoc (op := .rr) (l := (.reg .a)) (by nofun) h e
  | slaB => exact hc.shiftLoc (op := .sla) (l := (.reg .b)) (by nofun) h e
  | slaC => exact hc.shiftLoc (op := .sla) (l := (.reg .c)) (by nofun) h e
  | slaD => exact hc.shiftLoc (op := .sla) (l := (.reg .d)) (by nofun) h e
  | slaE => exact hc.shiftLoc (op := .sla) (l := (.reg .e)) (by nofun) h e
  | slaH => exact hc.shiftLoc (op := .sla) (l := (.reg .h)) (by nofun) h e
  | slaL => exact hc.shiftLoc (op := .sla) (l := (.reg .l)) (by nofun) h e
  | slaIndHl => exact hc.shiftLoc (op := .sla) (l := .indHl) (fun _ => (List.mem_singleton.2 rfl)) h e
  | slaA => exact hc.shiftLoc (op := .sla) (l := (.reg .a)) (by nofun) h e
  | sraB => exact hc.shiftLoc (op := .sra) (l := (.reg .b)) (by nofun) h e
  | sraC => exact hc.shiftLoc (op := .sra) (l := (.reg .c)) (by nofun) h e
  | sraD => exact hc.shiftLoc (op := .sra) (l := (.reg .d)) (by nofun) h e
  | sraE => exact hc.shiftLoc (op := .sra) (l := (.reg .e)) (by nofun) h e
  | sraH => exact hc.shiftLoc (op := .sra) (l := (.reg .h)) (by nofun) h e
  | sraL => exact hc.shiftLoc (op := .sra) (l := (.reg .l)) (by nofun) h e
  | sraIndHl => exact hc.shiftLoc (op := .sra) (l := .indHl) (fun _ => (List.mem_singleton.2 rfl)) h e
  | sraA => exact hc.shiftLoc (op := .sra) (l := (.reg .a)) (by nofun) h e
  | swapB => exact hc.shiftLoc (op := .swap) (l := (.reg .b)) (by nofun) h e
  | swapC => exact hc.shiftLoc (op := .swap) (l := (.reg .c)) (by nofun) h e
  | swapD => exact hc.shiftLoc (op := .swap) (l := (.reg .d)) (by nofun) h e
  | swapE => exact hc.shiftLoc (op := .swap) (l := (.reg .e)) (by nofun) h e
  | swapH => exact hc.shiftLoc (op := .swap) (l := (.reg .h)) (by nofun) h e
  | swapL => exact hc.shiftLoc (op := .swap) (l := (.reg .l)) (by nofun) h e
  | swapIndHl => exact hc.shiftLoc (op := .swap) (l := .indHl) (fun _ => (List.mem_singleton.2 rfl)) h e
  | swapA => exact hc.shiftLoc (op := .swap) (l := (.reg .a)) (by nofun) h e
  | srlB => exact hc.shiftLoc (op := .srl) (l := (.reg .b)) (by nofun) h e
  | srlC => exact hc.shiftLoc (op := .srl) (l := (.reg .c)) (by nofun) h e
  | srlD => exact hc.shiftLoc (op := .srl) (l := (.reg .d)) (by nofun) h e
  | srlE => exact hc.shiftLoc (op := .srl) (l := (.reg .e)) (by nofun) h e
  | srlH => exact hc.shiftLoc (op := .srl) (l := (.reg .h)) (by nofun) h e
  | srlL => exact hc.shiftLoc (op := .srl) (l := (.reg .l)) (by nofun) h e
  | srlIndHl => exact hc.shiftLoc (op := .srl) (l := .indHl) (fun _ => (List.mem_singleton.2 rfl)) h e
  | srlA => exact hc.shiftLoc (op := .srl) (l := (.reg .a)) (by nofun) h e
  | bit0B => exact hc.testBit (b := .n0) (l := (.reg .b)) h e
  | bit0C => exact hc.testBit (b := .n0) (l := (.reg .c)) h e
  | bit0D => exact hc.testBit (b := .n0) (l := (.reg .d)) h e
  | bit0E => exact hc.testBit (b := .n0) (l := (.reg .e)) h e
  | bit0H => exact hc.testBit (b := .n0) (l := (.reg .h)) h e
  | bit0L => exact hc.testBit (b := .n0) (l := (.reg .l)) h e
  | bit0IndHl => exact hc.testBit (b := .n0) (l := .indHl) h e
  | bit0A => exact hc.testBit (b := .n0) (l := (.reg .a)) h e
  | bit1B => exact hc.testBit (b := .n1) (l := (.reg .b)) h e
  | bit1C => exact hc.testBit (b := .n1) (l := (.reg .c)) h e
  | bit1D => exact hc.testBit (b := .n1) (l := (.reg .d)) h e
  | bit1E => exact hc.testBit (b := .n1) (l := (.reg .e)) h e
  | bit1H => exact hc.testBit (b := .n1) (l := (.reg .h)) h e
  | bit1L => exact hc.testBit (b := .n1) (l := (.reg .l)) h e
  | bit1IndHl => exact hc.testBit (b := .n1) (l := .indHl) h e
  | bit1A => exact hc.testBit (b := .n1) (l := (.reg .a)) h e
  | bit2B => exact hc.testBit (b := .n2) (l := (.reg .b)) h e
  | bit2C => exact hc.testBit (b := .n2) (l := (.reg .c)) h e
  | bit2D => exact hc.testBit (b := .n2) (l := (.reg .d)) h e
  | bit2E => exact hc.testBit (b := .n2) (l := (.reg .e)) h e
  | bit2H => exact hc.testBit (b := .n2) (l := (.reg .h)) h e
  | bit2L => exact hc.testBit (b := .n2) (l := (.reg .l)) h e
  | bit2IndHl => exact hc.testBit (b := .n2) (l := .indHl) h e
  | bit2A => exact hc.testBit (b := .n2) (l := (.reg .a)) h e
  | bit3B => exact hc.testBit (b := .n3) (l := (.reg .b)) h e
  | bit3C => exact hc.testBit (b := .n3) (l := (.reg .c)) h e
  | bit3D => exact hc.testBit (b := .n3) (l := (.reg .d)) h e
  | bit3E => exact hc.testBit (b := .n3) (l := (.reg .e)) h e
  | bit3H => exact hc.testBit (b := .n3) (l := (.reg .h)) h e
  | bit3L => exact hc.testBit (b := .n3) (l := (.reg .l)) h e
  | bit3IndHl => exact hc.testBit (b := .n3) (l := .indHl) h e
  | bit3A => exact hc.testBit (b := .n3) (l := (.reg .a)) h e
  | bit4B => exact hc.testBit (b := .n4) (l := (.reg .b)) h e
  | bit4C => exact hc.testBit (b := .n4) (l := (.reg .c)) h e
  | bit4D => exact hc.testBit (b := .n4) (l := (.reg .d)) h e
  | bit4E => exact hc.testBit (b := .n4) (l := (.reg .e)) h e
  | bit4H => exact hc.testBit (b := .n4) (l := (.reg .h)) h e
  | bit4L => exact hc.testBit (b := .n4) (l := (.reg .l)) h e
  | bit4IndHl => exact hc.testBit (b := .n4) (l := .indHl) h e
  | bit4A => exact hc.testBit (b := .n4) (l := (.reg .a)) h e
  | bit5B => exact hc.testBit (b := .n5) (l := (.reg .b)) h e
  | bit5C => exact hc.testBit (b := .n5) (l := (.reg .c)) h e
  | bit5D => exact hc.testBit (b := .n5) (l := (.reg .d)) h e
  | bit5E => exact hc.testBit (b := .n5) (l := (.reg .e)) h e
  | bit5H => exact hc.testBit (b := .n5) (l := (.reg .h)) h e
  | bit5L => exact hc.testBit (b := .n5) (l := (.reg .l)) h e
  | bit5IndHl => exact hc.testBit (b := .n5) (l := .indHl) h e
  | bit5A => exact hc.testBit (b := .n5) (l := (.reg .a)) h e
  | bit6B => exact hc.testBit (b := .n6) (l := (.reg .b)) h e
  | bit6C => exact hc.testBit (b := .n6) (l := (.reg .c)) h e
  | bit6D => exact hc.testBit (b := .n6) (l := (.reg .d)) h e
  | bit6E => exact hc.testBit (b := .n6) (l := (.reg .e)) h e
  | bit6H => exact hc.testBit (b := .n6) (l := (.reg .h)) h e
  | bit6L => exact hc.testBit (b := .n6) (l := (.reg .l)) h e
  | bit6IndHl => exact hc.testBit (b := .n6) (l := .indHl) h e
  | bit6A => exact hc.testBit (b := .n6) (l := (.reg .a)) h e
  | bit7B => exact hc.testBit (b := .n7) (l := (.reg .b)) h e
  | bit7C => exact hc.testBit (b := .n7) (l := (.reg .c)) h e
  | bit7D => exact hc.testBit (b := .n7) (l := (.reg .d)) h e
  | bit7E => exact hc.testBit (b := .n7) (l := (.reg .e)) h e
  | bit7H => exact hc.testBit (b := .n7) (l := (.reg .h)) h e
  | bit7L => exact hc.testBit (b := .n7) (l := (.reg .l)) h e
  | bit7IndHl => exact hc.testBit (b := .n7) (l := .indHl) h e
  | bit7A => exact hc.testBit (b := .n7) (l := (.reg .a)) h e
  | res0B => exact hc.clearBit (b := .n0) (l := (.reg .b)) (by nofun) h e
  | res0C => exact hc.clearBit (b := .n0) (l := (.reg .c)) (by nofun) h e
  | res0D => exact hc.clearBit (b := .n0) (l := (.reg .d)) (by nofun) h e
  | res0E => exact hc.clearBit (b := .n0) (l := (.reg .e)) (by nofun) h e
  | res0H => exact hc.clearBit (b := .n0) (l := (.reg .h)) (by nofun) h e
  | res0L => exact hc.clearBit (b := .n0) (l := (.reg .l)) (by nofun) h e
  | res0IndHl => exact hc.clearBit (b := .n0) (l := .indHl) (fun _ => (List.mem_singleton.2 rfl)) h e
  | res0A => exact hc.clearBit (b := .n0) (l := (.reg .a)) (by nofun) h e
  | res1B => exact hc.clearBit (b := .n1) (l := (.reg .b)) (by nofun) h e
  | res1C => exact hc.clearBit (b := .n1) (l := (.reg .c)) (by nofun) h e
  | res1D => exact hc.clearBit (b := .n1) (l := (.reg .d)) (by nofun) h e
  | res1E => exact hc.clearBit (b := .n1) (l := (.reg .e)) (by nofun) h e
  | res1H => exact hc.clearBit (b := .n1) (l := (.reg .h)) (by nofun) h e
  | res1L => exact hc.clearBit (b := .n1) (l := (.reg .l)) (by nofun) h e
  | res1IndHl => exact hc.clearBit (b := .n1) (l := .indHl) (fun _ => (List.mem_singleton.2 rfl)) h e
  | res1A => exact hc.clearBit (b := .n1) (l := (.reg .a)) (by nofun) h e
  | res2B => exact hc.clearBit (b := .n2) (l := (.reg .b)) (by nofun) h e
  | res2C => exact hc.clearBit (b := .n2) (l := (.reg .c)) (by nofun) h e
  | res2D => exact hc.clearBit (b := .n2) (l := (.reg .d)) (by nofun) h e
  | res2E => exact hc.clearBit (b := .n2) (l := (.reg .e)) (by nofun) h e
  | res2H => exact hc.clearBit (b := .n2) (l := (.reg .h)) (by nofun) h e
  | res2L => exact hc.clearBit (b := .n2) (l := (.reg .l)) (by nofun) h e
  | res2IndHl => exact hc.clearBit (b := .n2) (l := .indHl) (fun _ => (List.mem_singleton.2 rfl)) h e
  | res2A => exact hc.clearBit (b := .n2) (l := (.reg .a)) (by nofun) h e
  | res3B => exact hc.clearBit (b := .n3) (l := (.reg .b)) (by nofun) h e
  | res3C => exact hc.clearBit (b := .n3) (l := (.reg .c)) (by nofun) h e
  | res3D => exact hc.clearBit (b := .n3) (l := (.reg .d)) (by nofun) h e
  | res3E => exact hc.clearBit (b := .n3) (l := (.reg .e)) (by nofun) h e
  | res3H => exact hc.clearBit (b := .n3) (l := (.reg .h)) (by nofun) h e
  | res3L => exact hc.clearBit (b := .n3) (l := (.reg .l)) (by nofun) h e
  | res3IndHl => exact hc.clearBit (b := .n3) (l := .indHl) (fun _ => (List.mem_singleton.2 rfl)) h e
  | res3A => exact hc.clearBit (b := .n3) (l := (.reg .a)) (by nofun) h e
  | res4B => exact hc.clearBit (b := .n4) (l := (.reg .b)) (by nofun) h e
  | res4C => exact hc.clearBit (b := .n4) (l := (.reg .c)) (by nofun) h e
  | res4D => exact hc.clearBit (b := .n4) (l := (.reg .d)) (by nofun) h e
  | res4E => exact hc.clearBit (b := .n4) (l := (.reg .e)) (by nofun) h e
  | res4H => exact hc.clearBit (b := .n4) (l := (.reg .h)) (by nofun) h e
  | res4L => exact hc.clearBit (b := .n4) (l := (.reg .l)) (by nofun) h e
  | res4IndHl => exact hc.clearBit (b := .n4) (l := .indHl) (fun _ => (List.mem_singleton.2 rfl)) h e
  | res4A => exact hc.clearBit (b := .n4) (l := (.reg .a)) (by nofun) h e
  | res5B => exact hc.clearBit (b := .n5) (l := (.reg .b)) (by nofun) h e
  | res5C => exact hc.clearBit (b := .n5) (l := (.reg .c)) (by nofun) h e
  | res5D => exact hc.clearBit (b := .n5) (l := (.reg .d)) (by nofun) h e
  | res5E => exact hc.clearBit (b := .n5) (l := (.reg .e)) (by nofun) h e
  | res5H => exact hc.clearBit (b := .n5) (l := (.reg .h)) (by nofun) h e
  | res5L => exact hc.clearBit (b := .n5) (l := (.reg .l)) (by nofun) h e
  | res5IndHl => exact hc.clearBit (b := .n5) (l := .indHl) (fun _ => (List.mem_singleton.2 rfl)) h e
  | res5A => exact hc.clearBit (b := .n5) (l := (.reg .a)) (by nofun) h e
  | res6B => exact hc.clearBit (b := .n6) (l := (.reg .b)) (by nofun) h e
  | res6C => exact hc.clearBit (b := .n6) (l := (.reg .c)) (by nofun) h e
  | res6D => exact hc.clearBit (b := .n6) (l := (.reg .d)) (by nofun) h e
  | res6E => exact hc.clearBit (b := .n6) (l := (.reg .e)) (by nofun) h e
  | res6H => exact hc.clearBit (b := .n6) (l := (.reg .h)) (by nofun) h e
  | res6L => exact hc.clearBit (b := .n6) (l := (.reg .l)) (by nofun) h e
  | res6IndHl => exact hc.clearBit (b := .n6) (l := .indHl) (fun _ => (List.mem_singleton.2 rfl)) h e
  | res6A => exact hc.clearBit (b := .n6) (l := (.reg .a)) (by nofun) h e
  | res7B => exact hc.clearBit (b := .n7) (l := (.reg .b)) (by nofun) h e
  | res7C => exact hc.clearBit (b := .n7) (l := (.reg .c)) (by nofun) h e
  | res7D => exact hc.clearBit (b := .n7) (l := (.reg .d)) (by nofun) h e
  | res7E => exact hc.clearBit (b := .n7) (l := (.reg .e)) (by nofun) h e
  | res7H => exact hc.clearBit (b := .n7) (l := (.reg .h)) (by nofun) h e
  | res7L => exact hc.clearBit (b := .n7) (l := (.reg .l)) (by nofun) h e
  | res7IndHl => exact hc.clearBit (b := .n7) (l := .indHl) (fun _ => (List.mem_singleton.2 rfl)) h e
  | res7A => exact hc.clearBit (b := .n7) (l := (.reg .a)) (by nofun) h e
  | set0B => exact hc.raiseBit (b := .n0) (l := (.reg .b)) (by nofun) h e
  | set0C => exact hc.raiseBit (b := .n0) (l := (.reg .c)) (by nofun) h e
  | set0D => exact hc.raiseBit (b := .n0) (l := (.reg .d)) (by nofun) h e
  | set0E => exact hc.raiseBit (b := .n0) (l := (.reg .e)) (by nofun) h e
  | set0H => exact hc.raiseBit (b := .n0) (l := (.reg .h)) (by nofun) h e
  | set0L => exact hc.raiseBit (b := .n0) (l := (.reg .l)) (by nofun) h e
  | set0IndHl => exact hc.raiseBit (b := .n0) (l := .indHl) (fun _ => (List.mem_singleton.2 rfl)) h e
  | set0A => exact hc.raiseBit (b := .n0) (l := (.reg .a)) (by nofun) h e
  | set1B => exact hc.raiseBit (b := .n1) (l := (.reg .b)) (by nofun) h e
  | set1C => exact hc.raiseBit (b := .n1) (l := (.reg .c)) (by nofun) h e
  | set1D => exact hc.raiseBit (b := .n1) (l := (.reg .d)) (by nofun) h e
  | set1E => exact hc.raiseBit (b := .n1) (l := (.reg .e)) (by nofun) h e
  | set1H => exact hc.raiseBit (b := .n1) (l := (.reg .h)) (by nofun) h e
  | set1L => exact hc.raiseBit (b := .n1) (l := (.reg .l)) (by nofun) h e
  | set1IndHl => exact hc.raiseBit (b := .n1) (l := .indHl) (fun _ => (List.mem_singleton.2 rfl)) h e
  | set1A => exact hc.raiseBit (b := .n1) (l := (.reg .a)) (by nofun) h e
  | set2B => exact hc.raiseBit (b := .n2) (l := (.reg .b)) (by nofun) h e
  | set2C => exact hc.raiseBit (b := .n2) (l := (.reg .c)) (by nofun) h e
  | set2D => exact hc.raiseBit (b := .n2) (l := (.reg .d)) (by nofun) h e
  | set2E => exact hc.raiseBit (b := .n2) (l := (.reg .e)) (by nofun) h e
  | set2H => exact hc.raiseBit (b := .n2) (l := (.reg .h)) (by nofun) h e
  | set2L => exact hc.raiseBit (b := .n2) (l := (.reg .l)) (by nofun) h e
  | set2IndHl => exact hc.raiseBit (b := .n2) (l := .indHl) (fun _ => (List.mem_singleton.2 rfl)) h e
  | set2A => exact hc.raiseBit (b := .n2) (l := (.reg .a)) (by nofun) h e
  | set3B => exact hc.raiseBit (b := .n3) (l := (.reg .b)) (by nofun) h e
  | set3C => exact hc.raiseBit (b := .n3) (l := (.reg .c)) (by nofun) h e
  | set3D => exact hc.raiseBit (b := .n3) (l := (.reg .d)) (by nofun) h e
  | set3E => exact hc.raiseBit (b := .n3) (l := (.reg .e)) (by nofun) h e
  | set3H => exact hc.raiseBit (b := .n3) (l := (.reg .h)) (by nofun) h e
  | set3L => exact hc.raiseBit (b := .n3) (l := (.reg .l)) (by nofun) h e
  | set3IndHl => exact hc.raiseBit (b := .n3) (l := .indHl) (fun _ => (List.mem_singleton.2 rfl)) h e
  | set3A => exact hc.raiseBit (b := .n3) (l := (.reg .a)) (by nofun) h e
  | set4B => exact hc.raiseBit (b := .n4) (l := (.reg .b)) (by nofun) h e
  | set4C => exact hc.raiseBit (b := .n4) (l := (.reg .c)) (by nofun) h e
  | set4D => exact hc.raiseBit (b := .n4) (l := (.reg .d)) (by nofun) h e
  | set4E => exact hc.raiseBit (b := .n4) (l := (.reg .e)) (by nofun) h e
  | set4H => exact hc.raiseBit (b := .n4) (l := (.reg .h)) (by nofun) h e
  | set4L => exact hc.raiseBit (b := .n4) (l := (.reg .l)) (by nofun) h e
  | set4IndHl => exact hc.raiseBit (b := .n4) (l := .indHl) (fun _ => (List.mem_singleton.2 rfl)) h e
  | set4A => exact hc.raiseBit (b := .n4) (l := (.reg .a)) (by nofun) h e
  | set5B => exact hc.raiseBit (b := .n5) (l := (.reg .b)) (by nofun) h e
  | set5C => exact hc.raiseBit (b := .n5) (l := (.reg .c)) (by nofun) h e
  | set5D => exact hc.raiseBit (b := .n5) (l := (.reg .d)) (by nofun) h e
  | set5E => exact hc.raiseBit (b := .n5) (l := (.reg .e)) (by nofun) h e
  | set5H => exact hc.raiseBit (b := .n5) (l := (.reg .h)) (by nofun) h e
  | set5L => exact hc.raiseBit (b := .n5) (l := (.reg .l)) (by nofun) h e
  | set5IndHl => exact hc.raiseBit (b := .n5) (l := .indHl) (fun _ => (List.mem_singleton.2 rfl)) h e
  | set5A => exact hc.raiseBit (b := .n5) (l := (.reg .a)) (by nofun) h e
  | set6B => exact hc.raiseBit (b := .n6) (l := (.reg .b)) (by nofun) h e
  | set6C => exact hc.raiseBit (b := .n6) (l := (.reg .c)) (by nofun) h e
  | set6D => exact hc.raiseBit (b := .n6) (l := (.reg .d)) (by nofun) h e
  | set6E => exact hc.raiseBit (b := .n6) (l := (.reg .e)) (by nofun) h e
  | set6H => exact hc.raiseBit (b := .n6) (l := (.reg .h)) (by nofun) h e
  | set6L => exact hc.raiseBit (b := .n6) (l := (.reg .l)) (by nofun) h e
  | set6IndHl => exact hc.raiseBit (b := .n6) (l := .indHl) (fun _ => (List.mem_singleton.2 rfl)) h e
  | set6A => exact hc.raiseBit (b := .n6) (l := (.reg .a)) (by nofun) h e
  | set7B => exact hc.raiseBit (b := .n7) (l := (.reg .b)) (by nofun) h e
  | set7C => exact hc.raiseBit (b := .n7) (l := (.reg .c)) (by nofun) h e
  | set7D => exact hc.raiseBit (b := .n7) (l := (.reg .d)) (by nofun) h e
  | set7E => exact hc.raiseBit (b := .n7) (l := (.reg .e)) (by nofun) h e
  | set7H => exact hc.raiseBit (b := .n7) (l := (.reg .h)) (by nofun) h e
  | set7L => exact hc.raiseBit (b := .n7) (l := (.reg .l)) (by nofun) h e
  | set7IndHl => exact hc.raiseBit (b := .n7) (l := .indHl) (fun _ => (List.mem_singleton.2 rfl)) h e
  | set7A => exact hc.raiseBit (b := .n7) (l := (.reg .a)) (by nofun) h e

end

theorem controls_cases {i : Instr} (h : controls i = true) :
    i = .di ∨ i = .ei ∨ i = .reti ∨ i = .halt ∨ ∃ v, i = .stop v := by
  unfold controls at h
  split at h <;> simp_all

/-- `HALT` that answers (45_system.md R381). -/
theorem halt_next {s t : State} (h : exec .halt s = .next t) : t = { s with halted := true, cycles := 4 } := by
  change halt s = _ at h
  unfold halt at h
  split at h
  · cases h
  · cases h; rfl

/-- `RETI` that answers (44_control.md R360). -/
theorem reti_next {s t : State} (h : exec .reti s = .next t) :
    ∃ lo hi, peek (Config.freeByte s.draws) s.sp s = some lo ∧
      peek (Config.freeByte (s.draws + 1)) (s.sp + 1#16) s = some hi ∧
      t = { s with
        sp := s.sp + 2#16, draws := s.draws + 2, pc := wordOf hi lo, ime := true, imePending := .none,
        cycles := 16 } := by
  obtain ⟨w, e1, e2⟩ := andThen_eq_next h
  obtain ⟨r, e3, e4⟩ := andThen_eq_next e1
  obtain ⟨lo, e5, e6⟩ := andThen_eq_next e3
  obtain ⟨hi, e7, e8⟩ := andThen_eq_next e6
  obtain ⟨x, e9, e10⟩ := andThen_eq_next e5
  obtain ⟨y, e11, e12⟩ := andThen_eq_next e7
  cases e12
  cases e10
  cases e8
  cases e4
  cases e2
  obtain ⟨p1, q1⟩ := readByte_eq_next.1 e9
  rw [q1] at e11
  obtain ⟨p2, q2⟩ := readByte_eq_next.1 e11
  refine ⟨x.1, y.1, p1, p2 ▸ (peek_congr rfl rfl rfl rfl rfl rfl rfl rfl).symm, ?_⟩
  dsimp only
  rw [q2]
  dsimp only
  rw [add_one_add_one]

end Sys2Proof.Machine
end

