-- ==== Sys2Proof/Laws/Step.lean ====
section
/-! SUPPORT. What the service step, a fetch, an iteration and a step can do, said once; and that each keeps the invariant. -/

namespace Sys2Proof.Machine

/-! ### The service step (60_exceptions.md R420) -/

/-- Everything `service` can do when it answers: wake, perhaps dispatch one source, then the clear policy. -/
theorem service_next {s : State} {r : Nat × State} (h : service s = .next r) :
    ∃ w, r.2 = applyClearPolicy s.ime w ∧
      ((r.1 = 0 ∧ w = { s with halted := w.halted, stopped := w.stopped } ∧ (w.halted = true → s.halted = true) ∧
          (w.stopped = true → s.stopped = true)) ∨
        (r.1 = 20 ∧ s.ime = true ∧
          ∃ k, dispatchIrq k { s with halted := false, stopped := false } = .next w)) := by
  have key : ∀ u : State, u = { s with halted := u.halted, stopped := u.stopped } → u.stopped = false →
      (u.halted = true → s.halted = true) →
      ∀ q, dispatchFirst (wakeHalted u) = .next q →
        (q.1 = 0 ∧ q.2 = { s with halted := q.2.halted, stopped := q.2.stopped } ∧
            (q.2.halted = true → s.halted = true) ∧ (q.2.stopped = true → s.stopped = true)) ∨
          (q.1 = 20 ∧ s.ime = true ∧
            ∃ k, dispatchIrq k { s with halted := false, stopped := false } = .next q.2) := by
    intro u hu hst hh q hq
    have hw : wakeHalted u = { s with halted := (wakeHalted u).halted, stopped := false } ∧
        ((wakeHalted u).halted = true → s.halted = true) ∧
        (pendingIrqs s ≠ 0#5 → wakeHalted u = { s with halted := false, stopped := false }) := by
      rw [hst] at hu
      have hp : pendingIrqs u = pendingIrqs s := by rw [hu]; rfl
      unfold wakeHalted
      split
      · rename_i h1
        rw [hu]
        exact ⟨rfl, fun h2 => (by cases h2), fun _ => rfl⟩
      · rename_i h1
        refine ⟨hu, hh, fun h2 => ?_⟩
        rw [hp] at h1
        have : u.halted = false := by
          cases hb : u.halted
          · rfl
          · exact absurd ⟨hb, h2⟩ h1
        rw [this] at hu
        exact hu
    obtain ⟨hw1, hw2, hw3⟩ := hw
    have hp : pendingIrqs (wakeHalted u) = pendingIrqs s := by rw [hw1]; rfl
    have hi : (wakeHalted u).ime = s.ime := by rw [hw1]
    have hno : ∀ q : Nat × State, (.next (0, wakeHalted u) : Out (Nat × State)) = .next q →
        q.1 = 0 ∧ q.2 = { s with halted := q.2.halted, stopped := q.2.stopped } ∧
          (q.2.halted = true → s.halted = true) ∧ (q.2.stopped = true → s.stopped = true) := by
      intro q e
      cases e
      refine ⟨rfl, ?_, hw2, fun hs => ?_⟩
      · conv => lhs; rw [hw1]
        rw [show (wakeHalted u).stopped = false by rw [hw1]]
      · rw [hw1] at hs
        cases hs
    unfold dispatchFirst at hq
    split at hq
    · rename_i hime
      split at hq
      · exact .inl (hno q hq)
      · rename_i k hk
        obtain ⟨w, e1, e2⟩ := andThen_eq_next hq
        cases e2
        refine .inr ⟨rfl, hi ▸ hime, k, ?_⟩
        rw [← hw3]
        · exact e1
        · intro h0
          rw [hp, h0] at hk
          cases k <;> exact absurd hk (by decide)
    · exact .inl (hno q hq)
  unfold service at h
  dsimp only at h
  have hws : wakeStopped s = { s with stopped := (wakeStopped s).stopped } ∧
      ((wakeStopped s).stopped = true → s.stopped = true) := by
    unfold wakeStopped
    split
    · exact ⟨rfl, fun h => (by cases h)⟩
    · exact ⟨rfl, id⟩
  split at h
  · cases h
    refine ⟨wakeStopped s, rfl, .inl ⟨rfl, ?_, fun hb => ?_, hws.2⟩⟩
    · conv => lhs; rw [hws.1]
      rw [show (wakeStopped s).halted = s.halted by rw [hws.1]]
    · rw [hws.1] at hb
      exact hb
  · rename_i hst
    obtain ⟨q, e1, e2⟩ := andThen_eq_next h
    cases e2
    have hst' : (wakeStopped s).stopped = false := by simpa using hst
    refine ⟨q.2, rfl, key (wakeStopped s) ?_ hst' ?_ q e1⟩
    · conv => lhs; rw [hws.1]
      rw [show (wakeStopped s).halted = s.halted by rw [hws.1]]
    · intro hb
      rw [hws.1] at hb
      exact hb

/-- What a dispatch leaves is what a push leaves, with PC at the vector (R425). -/
theorem dispatchIrq_next {k : Irq} {s t : State} (h : dispatchIrq k s = .next t) :
    ∃ w, push16 s.pc
        { s with intFlag := s.intFlag &&& ~~~k.mask, ime := false, imePending := .none, halted := false } = .next w ∧
      t = { w with pc := k.vector } := by
  obtain ⟨w, e1, e2⟩ := andThen_eq_next h
  cases e2
  exact ⟨w, e1, rfl⟩

/-! ### Fetching (30_encoding.md R194) -/

/-- A fetch that answers moved PC and the draws by the same count and changed nothing else. -/
theorem fetchInstr_next {s : State} {r : Instr × State} (h : fetchInstr s = .next r) :
    ∃ n, r.2 = { s with pc := s.pc + BitVec.ofNat 16 n, draws := s.draws + n } := by
  obtain ⟨x, e1, e2⟩ := andThen_eq_next h
  have hx := (fetch8_next e1).2
  split at e2
  · cases e2
    exact ⟨1, hx⟩
  · obtain ⟨y, e3, e4⟩ := andThen_eq_next e2
    have hy := (fetch8_next e3).2
    cases e4
    refine ⟨2, ?_⟩
    rw [hy, hx]
    dsimp only
    rw [add_one_add_one]
  · obtain ⟨y, e3, e4⟩ := andThen_eq_next e2
    obtain ⟨z, e5, e6⟩ := andThen_eq_next e4
    have hy := (fetch8_next e3).2
    have hz := (fetch8_next e5).2
    cases e6
    refine ⟨3, ?_⟩
    rw [hz, hy, hx]
    dsimp only
    rw [add_one_add_one]
    congr 1
    bv_omega

/-! ### The scheduler's parts, said once -/

/-- A pending change touches IME and itself only (60_exceptions.md R424). -/
theorem applyPending_shape (s : State) :
    applyPending s = { s with ime := (applyPending s).ime, imePending := (applyPending s).imePending } := by
  unfold applyPending
  split <;> rfl

/-- The clear policy touches IF only (R421). -/
theorem applyClearPolicy_shape (b : Bool) (s : State) :
    applyClearPolicy b s = { s with intFlag := (applyClearPolicy b s).intFlag } := by
  unfold applyClearPolicy
  cases s.params.ifClearPolicy
  · rfl
  · cases b <;> rfl
  · rfl

/-- The counter touches TIMA and its accumulator (R442), and the request IF (R443). -/
theorem tickCounterRequest_shape (c : Nat) (s : State) :
    tickCounterRequest c s =
      { s with
        timer :=
          { s.timer with
            tima := (tickCounterRequest c s).timer.tima, timaAcc := (tickCounterRequest c s).timer.timaAcc }
        intFlag := (tickCounterRequest c s).intFlag } := by
  unfold tickCounterRequest tickCounter
  split
  · dsimp only
    split <;> rfl
  · rfl

/-- The end of an iteration touches the timer's counter, IF, the pixel processor's cells, the draws and the frame total. -/
theorem endIteration_shape (c : Nat) (s : State) :
    endIteration c s =
      { s with
        timer :=
          { s.timer with
            tima := (endIteration c s).timer.tima, timaAcc := (endIteration c s).timer.timaAcc }
        intFlag := (endIteration c s).intFlag
        io := (endIteration c s).io
        draws := s.draws + 2
        frameTotal := s.frameTotal + c } := by
  unfold endIteration pixelTick requestIrqs
  dsimp only
  rw [tickCounterRequest_shape c s]

/-- What a service step that answers leaves of everything a dispatch's stores cannot reach (R420, R425). -/
theorem service_keeps {s : State} {r : Nat × State} {P : State → Prop} (h : service s = .next r)
    (hc : Closed [s.sp - 1#16, s.sp - 2#16] P) (hsleep : ∀ u a b, P u → P { u with halted := a, stopped := b })
    (hif : ∀ u x, P u → P { u with intFlag := x }) (hime : ∀ u a b, P u → P { u with ime := a, imePending := b })
    (hs : P s) : P r.2 := by
  obtain ⟨w, hr, hw⟩ := service_next h
  rw [hr, applyClearPolicy_shape]
  refine hif _ _ ?_
  obtain ⟨_, e, _⟩ | ⟨_, _, k, e⟩ := hw
  · rw [e]
    exact hsleep _ _ _ hs
  · obtain ⟨x, e1, rfl⟩ := dispatchIrq_next e
    refine hc.pc _ _ (hc.push16 (s := { s with
      intFlag := s.intFlag &&& ~~~k.mask, ime := false, imePending := .none, halted := false, stopped := false })
      (fun a ha => ha) ?_ e1)
    exact hime { s with intFlag := s.intFlag &&& ~~~k.mask, halted := false, stopped := false } _ _
      (hsleep { s with intFlag := s.intFlag &&& ~~~k.mask } _ _ (hif _ _ hs))

/-! ### An iteration and a step (R450) -/

/-- What runs between the service step and the counter: an instruction and the divider, or 4 idle cycles. -/
theorem runOrIdle_next {u v : State} (h : runOrIdle u = .next v) :
    (u.halted = false ∧ u.stopped = false ∧
      ∃ i n w, exec i { u with pc := u.pc + BitVec.ofNat 16 n, draws := u.draws + n } = .next w ∧
        v = tickDivider w.cycles w) ∨
    ((u.halted = true ∨ u.stopped = true) ∧ v = idle u) := by
  unfold runOrIdle at h
  split at h
  · rename_i hs
    obtain ⟨w, e1, e2⟩ := andThen_eq_next h
    obtain ⟨r, e3, e4⟩ := andThen_eq_next e1
    obtain ⟨n, hn⟩ := fetchInstr_next e3
    cases e2
    rw [hn] at e4
    exact .inl ⟨hs.1, hs.2, r.1, n, w, e4, rfl⟩
  · rename_i hs
    cases h
    refine .inr ⟨?_, rfl⟩
    cases h1 : u.halted
    · cases h2 : u.stopped
      · exact absurd ⟨h1, h2⟩ hs
      · exact .inr rfl
    · exact .inl rfl

/-- What a core that goes on has done; it was not faulted. -/
theorem unlessFaulted_next {α : Type} {k : State → Out α} {s : State} {x : α} (h : unlessFaulted k s = .next x) :
    s.fault = none ∧ k s = .next x := by
  unfold unlessFaulted at h
  split at h
  · cases h
  · exact ⟨‹_›, h⟩

/-- A core without a fault is not held back. -/
theorem unlessFaulted_running {α : Type} {k : State → Out α} {s : State} (h : s.fault = none) :
    unlessFaulted k s = k s := by unfold unlessFaulted; rw [h]

/-- A faulted core answers its fault, unchanged (60_exceptions.md R405). -/
theorem unlessFaulted_faulted {α : Type} {k : State → Out α} {s : State} {r : FaultRecord} (h : s.fault = some r) :
    unlessFaulted k s = .fault (faultOf r s) := by unfold unlessFaulted; rw [h]

/-- The parts of an iteration that answers, with the input collaborator's step after it. -/
theorem iterationThenInput_next {s t : State} (h : iterationThenInput s = .next t) :
    s.fault = none ∧ ∃ r v, service (applyPending s) = .next r ∧ runOrIdle r.2 = .next v ∧
      t = inputTick (endIteration (r.1 + v.cycles) v) := by
  obtain ⟨x, e1, e2⟩ := andThen_eq_next h
  obtain ⟨hf, e0⟩ := unlessFaulted_next e1
  obtain ⟨r, e3, e4⟩ := andThen_eq_next e0
  obtain ⟨v, e5, e6⟩ := andThen_eq_next e4
  cases e6
  cases e2
  exact ⟨hf, r, v, e3, e5, rfl⟩

/-- With FRAME_CYCLES = 0 a step is a `run_frame(0)`: no iteration (R451). -/
theorem frameStep_beginFrame_zero {s : State} (h : s.params.frameCycles = 0) :
    frameStep (beginFrame s) = .next { s with frameTotal := 0 } := by
  have hb : beginFrame s = { s with frameTotal := 0 } := if_pos (by omega)
  rw [hb]
  exact if_neg (by dsimp only; omega)

/-- With FRAME_CYCLES above 0 a step runs one iteration. -/
theorem frameStep_beginFrame_pos {s : State} (h : 0 < s.params.frameCycles) :
    frameStep (beginFrame s) = iterationThenInput (beginFrame s) := by
  refine if_pos ?_
  unfold beginFrame
  split
  · exact h
  · omega

/-- The parts of a step that answers: an iteration, or none with FRAME_CYCLES = 0. -/
theorem step_next {s t : State} (h : step s = .next t) :
    s.fault = none ∧
      ((s.params.frameCycles = 0 ∧ t = { s with frameTotal := 0 }) ∨
        (0 < s.params.frameCycles ∧
          ∃ r v, service (applyPending (beginFrame s)) = .next r ∧ runOrIdle r.2 = .next v ∧
            t = inputTick (endIteration (r.1 + v.cycles) v))) := by
  unfold step coreStep at h
  obtain ⟨hf, h⟩ := unlessFaulted_next h
  refine ⟨hf, ?_⟩
  obtain h0 | h0 := Nat.eq_zero_or_pos s.params.frameCycles
  · rw [frameStep_beginFrame_zero h0] at h
    cases h
    exact .inl ⟨h0, rfl⟩
  · rw [frameStep_beginFrame_pos h0] at h
    exact .inr ⟨h0, (iterationThenInput_next h).2⟩

/-! ### What an iteration leaves of the run it belongs to -/

/-- A store keeps the parameters, the frame total and the fault record. -/
theorem closed_run (ts : List Word) (s : State) :
    Closed ts (fun u => u.params = s.params ∧ u.frameTotal = s.frameTotal ∧ u.fault = s.fault) :=
  ⟨fun _ _ h => h, fun _ _ h => h, fun _ _ h => h, fun _ _ h => h, fun _ _ h => h, fun a v s w _ e h => by
    rw [writeByte_shape e]
    exact h⟩

/-- An instruction that answers keeps the parameters, the frame total and the fault record, and returns a legal count. -/
theorem exec_run {i : Instr} {s t : State} (h : exec i s = .next t) :
    t.params = s.params ∧ t.frameTotal = s.frameTotal ∧ t.fault = s.fault ∧ t.cycles ∈ cycleCounts := by
  by_cases hc : controls i = true
  · obtain rfl | rfl | rfl | rfl | ⟨v, rfl⟩ := controls_cases hc
    · cases h; exact ⟨rfl, rfl, rfl, List.mem_cons_self⟩
    · cases h; exact ⟨rfl, rfl, rfl, List.mem_cons_self⟩
    · obtain ⟨lo, hi, _, _, rfl⟩ := reti_next h; exact ⟨rfl, rfl, rfl, (by decide : 16 ∈ cycleCounts)⟩
    · rw [halt_next h]; exact ⟨rfl, rfl, rfl, List.mem_cons_self⟩
    · cases h; exact ⟨rfl, rfl, rfl, List.mem_cons_self⟩
  · obtain ⟨u, n, hu, hn, rfl⟩ := exec_keeps (closed_run _ s) (by simpa using hc) ⟨rfl, rfl, rfl⟩ h
    exact ⟨hu.1, hu.2.1, hu.2.2, hn⟩

/-- A service step that answers keeps them too. -/
theorem service_run {s : State} {r : Nat × State} (h : service s = .next r) :
    r.2.params = s.params ∧ r.2.frameTotal = s.frameTotal ∧ r.2.fault = s.fault :=
  service_keeps h (closed_run _ s) (fun _ _ _ h => h) (fun _ _ h => h) (fun _ _ _ h => h) ⟨rfl, rfl, rfl⟩

/-- An iteration that answers keeps the parameters, leaves no fault, and adds from 4 to 44 cycles to the frame total
(60_exceptions.md R451). -/
theorem iterationThenInput_run {s t : State} (h : iterationThenInput s = .next t) :
    t.params = s.params ∧ t.fault = none ∧ s.frameTotal + 4 ≤ t.frameTotal ∧ t.frameTotal ≤ s.frameTotal + 44 := by
  obtain ⟨hf, r, v, e1, e2, rfl⟩ := iterationThenInput_next h
  have hr := service_run e1
  rw [applyPending_shape] at hr
  have hr1 : r.1 ≤ 20 := by
    obtain ⟨_, _, ⟨h0, _⟩ | ⟨h0, _⟩⟩ := service_next e1 <;> omega
  have hv : v.params = r.2.params ∧ v.frameTotal = r.2.frameTotal ∧ v.fault = r.2.fault ∧ 4 ≤ v.cycles ∧
      v.cycles ≤ 24 := by
    obtain ⟨_, _, i, n, w, ew, rfl⟩ | ⟨_, rfl⟩ := runOrIdle_next e2
    · obtain ⟨h1, h2, h3, h4⟩ := exec_run ew
      refine ⟨h1, h2, h3, ?_⟩
      change 4 ≤ w.cycles ∧ w.cycles ≤ 24
      simp [cycleCounts] at h4
      omega
    · unfold idle
      dsimp only
      split <;> exact ⟨rfl, rfl, rfl, Nat.le_refl 4, (by decide : 4 ≤ 24)⟩
  rw [endIteration_shape]
  change v.params = s.params ∧ v.fault = none ∧ s.frameTotal + 4 ≤ v.frameTotal + (r.1 + v.cycles) ∧
    v.frameTotal + (r.1 + v.cycles) ≤ s.frameTotal + 44
  dsimp only at hr
  refine ⟨hv.1.trans hr.1, hv.2.2.1.trans (hr.2.2.trans hf), ?_⟩
  omega

end Sys2Proof.Machine
end

