-- ==== Sys2Proof/Laws/Invariant.lean ====
section
/-! SUPPORT. The invariant of a running core survives a store, so every memory operation keeps the canonical form (Safety.lean `State.Inv`). -/

namespace Sys2Proof.Machine

/-- The key of a plain byte is one a RAM may list (10_state.md R57). -/
theorem isRamKey_ramKey {a : Word} (h : plainRam a = true) : isRamKey (ramKey a) = true := by
  have hlt := a.isLt
  unfold plainRam at h
  unfold isRamKey ramKey
  simp only [Bool.or_eq_true, Bool.and_eq_true, decide_eq_true_eq] at h ⊢
  split <;> omega

/-- What a store to the StorageController keeps: canonical cartridge RAM, `rom_low` never 0, RAM bank 0 in ROM
mode (20_memory.md R161-R164). -/
theorem cartWrite_inv {n : Nat} {v : Byte} {c : Cart} (hn : n ≤ 0x7FFF ∨ (0xA000 ≤ n ∧ n ≤ 0xBFFF))
    (h1 : Memory.wf c.cram = true) (h2 : c.cram.all (fun cell => decide (cell.1 < 0x8000)) = true)
    (h3 : c.romLow ≠ 0#5) (h4 : c.mode = false → c.ramBank = 0#2) :
    Memory.wf (cartWrite n v c).cram = true ∧
      (cartWrite n v c).cram.all (fun cell => decide (cell.1 < 0x8000)) = true ∧ (cartWrite n v c).romLow ≠ 0#5 ∧
      ((cartWrite n v c).mode = false → (cartWrite n v c).ramBank = 0#2) := by
  unfold cartWrite
  split
  · exact ⟨h1, h2, h3, h4⟩
  split
  · exact ⟨h1, h2, h3, h4⟩
  split
  · refine ⟨h1, h2, ?_, h4⟩
    dsimp only
    split
    · decide
    · assumption
  split
  · split
    · exact ⟨h1, h2, h3, fun hm => by simp_all⟩
    · exact ⟨h1, h2, h3, h4⟩
  split
  · split
    · exact ⟨h1, h2, h3, nofun⟩
    · exact ⟨h1, h2, h3, fun _ => rfl⟩
  split
  · have hb := c.ramBank.isLt
    have hk : decide (cramOffset n c < 0x8000) = true := by
      unfold cramOffset
      rw [decide_eq_true_eq]
      omega
    exact ⟨wf_memSet h1, all_memSet (p := fun cell => decide (cell.1 < 0x8000)) hk h2, h3, h4⟩
  · exact ⟨h1, h2, h3, h4⟩

/-- An I/O write leaves the divider's accumulator below its threshold, and every field the invariant names. -/
theorem ioWrite_inv {v : Byte} {r : IoReg} {s : State} (h : s.Inv) : (ioWrite v r s).Inv := by
  obtain ⟨a1, a2, a3, a4, a5, a6, a7, a8, a9, a10, a11, a12⟩ := h
  cases r
  case div => exact ⟨a1, a2, a3, a4, a5, a6, a7, a8, a9, Nat.zero_lt_succ _, a11, a12⟩
  all_goals exact ⟨a1, a2, a3, a4, a5, a6, a7, a8, a9, a10, a11, a12⟩

/-- A store keeps the invariant. -/
theorem writeByte_inv {a : Word} {v : Byte} {s w : State} (h : writeByte a v s = .next w) (hs : s.Inv) : w.Inv := by
  obtain ⟨h1, rfl⟩ | ⟨h1, rfl⟩ | ⟨h1, rfl⟩ | ⟨h1, rfl⟩ := writeByte_bands h
  · obtain ⟨c1, c2, c3, c4⟩ := cartWrite_inv (v := v) h1 hs.cramWf hs.cramKeys hs.romLow hs.romMode
    obtain ⟨e1, e2⟩ := cartWrite_rom a.toNat v s.cart
    have e3 := cartWrite_variant a.toNat v s.cart
    refine ⟨hs.ramWf, hs.ramKeys, c1, c2, ?_, ?_, ?_, c3, c4, hs.divAcc, hs.oneSleep, hs.noFault⟩
    · rw [e1, e2]; exact hs.romWf
    · rw [e2]; exact hs.romMin
    · rw [e2, e3]; exact hs.romMax
  · refine ⟨wf_memSet hs.ramWf, all_memSet (isRamKey_ramKey h1) hs.ramKeys, hs.cramWf, hs.cramKeys, hs.romWf, hs.romMin,
      hs.romMax, hs.romLow, hs.romMode, hs.divAcc, hs.oneSleep, hs.noFault⟩
  · exact ioWrite_inv hs
  · exact ⟨hs.ramWf, hs.ramKeys, hs.cramWf, hs.cramKeys, hs.romWf, hs.romMin, hs.romMax, hs.romLow, hs.romMode,
      hs.divAcc, hs.oneSleep, hs.noFault⟩

/-- The invariant reads nothing an instruction writes outside its stores, but for `halted` and `stopped`. -/
theorem closed_inv (ts : List Word) : Closed ts State.Inv where
  regs _ _ h := ⟨h.1, h.2, h.3, h.4, h.5, h.6, h.7, h.8, h.9, h.10, h.11, h.12⟩
  f _ _ h := ⟨h.1, h.2, h.3, h.4, h.5, h.6, h.7, h.8, h.9, h.10, h.11, h.12⟩
  sp _ _ h := ⟨h.1, h.2, h.3, h.4, h.5, h.6, h.7, h.8, h.9, h.10, h.11, h.12⟩
  pc _ _ h := ⟨h.1, h.2, h.3, h.4, h.5, h.6, h.7, h.8, h.9, h.10, h.11, h.12⟩
  draws _ _ h := ⟨h.1, h.2, h.3, h.4, h.5, h.6, h.7, h.8, h.9, h.10, h.11, h.12⟩
  write _ _ _ _ _ e h := writeByte_inv e h

end Sys2Proof.Machine
end

