-- ==== Sys2Proof/Laws/PerInstr.lean ====
section
/-! SUPPORT. The family EncodedLength, one lemma per instruction: the first byte of an encoding tells its length (30_encoding.md R192). -/

namespace Sys2Proof.Laws.EncodedLength

/-- The encoding of `i` starts with a byte, and where `i` is a whole instruction that byte alone tells how many
bytes the encoding has (R191, R192). -/
def Statement (i : Instr) : Prop :=
  ∃ op, (encode i).head? = some op ∧ (i.wellFormed = true → (encode i).length = instrLength op)

theorem nop : Statement .nop := ⟨_, rfl, fun _ => rfl⟩
theorem ldBcD16 (v : Word) : Statement (.ldBcD16 v) := ⟨_, rfl, fun _ => rfl⟩
theorem ldIndBcA : Statement .ldIndBcA := ⟨_, rfl, fun _ => rfl⟩
theorem incBc : Statement .incBc := ⟨_, rfl, fun _ => rfl⟩
theorem incB : Statement .incB := ⟨_, rfl, fun _ => rfl⟩
theorem decB : Statement .decB := ⟨_, rfl, fun _ => rfl⟩
theorem ldBD8 (v : Byte) : Statement (.ldBD8 v) := ⟨_, rfl, fun _ => rfl⟩
theorem rlca : Statement .rlca := ⟨_, rfl, fun _ => rfl⟩
theorem ldIndA16Sp (v : Word) : Statement (.ldIndA16Sp v) := ⟨_, rfl, fun _ => rfl⟩
theorem addHlBc : Statement .addHlBc := ⟨_, rfl, fun _ => rfl⟩
theorem ldAIndBc : Statement .ldAIndBc := ⟨_, rfl, fun _ => rfl⟩
theorem decBc : Statement .decBc := ⟨_, rfl, fun _ => rfl⟩
theorem incC : Statement .incC := ⟨_, rfl, fun _ => rfl⟩
theorem decC : Statement .decC := ⟨_, rfl, fun _ => rfl⟩
theorem ldCD8 (v : Byte) : Statement (.ldCD8 v) := ⟨_, rfl, fun _ => rfl⟩
theorem rrca : Statement .rrca := ⟨_, rfl, fun _ => rfl⟩
theorem stop (v : Byte) : Statement (.stop v) := ⟨_, rfl, fun _ => rfl⟩
theorem ldDeD16 (v : Word) : Statement (.ldDeD16 v) := ⟨_, rfl, fun _ => rfl⟩
theorem ldIndDeA : Statement .ldIndDeA := ⟨_, rfl, fun _ => rfl⟩
theorem incDe : Statement .incDe := ⟨_, rfl, fun _ => rfl⟩
theorem incD : Statement .incD := ⟨_, rfl, fun _ => rfl⟩
theorem decD : Statement .decD := ⟨_, rfl, fun _ => rfl⟩
theorem ldDD8 (v : Byte) : Statement (.ldDD8 v) := ⟨_, rfl, fun _ => rfl⟩
theorem rla : Statement .rla := ⟨_, rfl, fun _ => rfl⟩
theorem jrE8 (v : Byte) : Statement (.jrE8 v) := ⟨_, rfl, fun _ => rfl⟩
theorem addHlDe : Statement .addHlDe := ⟨_, rfl, fun _ => rfl⟩
theorem ldAIndDe : Statement .ldAIndDe := ⟨_, rfl, fun _ => rfl⟩
theorem decDe : Statement .decDe := ⟨_, rfl, fun _ => rfl⟩
theorem incE : Statement .incE := ⟨_, rfl, fun _ => rfl⟩
theorem decE : Statement .decE := ⟨_, rfl, fun _ => rfl⟩
theorem ldED8 (v : Byte) : Statement (.ldED8 v) := ⟨_, rfl, fun _ => rfl⟩
theorem rra : Statement .rra := ⟨_, rfl, fun _ => rfl⟩
theorem jrNzE8 (v : Byte) : Statement (.jrNzE8 v) := ⟨_, rfl, fun _ => rfl⟩
theorem ldHlD16 (v : Word) : Statement (.ldHlD16 v) := ⟨_, rfl, fun _ => rfl⟩
theorem ldIndHlIncA : Statement .ldIndHlIncA := ⟨_, rfl, fun _ => rfl⟩
theorem incHl : Statement .incHl := ⟨_, rfl, fun _ => rfl⟩
theorem incH : Statement .incH := ⟨_, rfl, fun _ => rfl⟩
theorem decH : Statement .decH := ⟨_, rfl, fun _ => rfl⟩
theorem ldHD8 (v : Byte) : Statement (.ldHD8 v) := ⟨_, rfl, fun _ => rfl⟩
theorem daa : Statement .daa := ⟨_, rfl, fun _ => rfl⟩
theorem jrZE8 (v : Byte) : Statement (.jrZE8 v) := ⟨_, rfl, fun _ => rfl⟩
theorem addHlHl : Statement .addHlHl := ⟨_, rfl, fun _ => rfl⟩
theorem ldAIndHlInc : Statement .ldAIndHlInc := ⟨_, rfl, fun _ => rfl⟩
theorem decHl : Statement .decHl := ⟨_, rfl, fun _ => rfl⟩
theorem incL : Statement .incL := ⟨_, rfl, fun _ => rfl⟩
theorem decL : Statement .decL := ⟨_, rfl, fun _ => rfl⟩
theorem ldLD8 (v : Byte) : Statement (.ldLD8 v) := ⟨_, rfl, fun _ => rfl⟩
theorem cpl : Statement .cpl := ⟨_, rfl, fun _ => rfl⟩
theorem jrNcE8 (v : Byte) : Statement (.jrNcE8 v) := ⟨_, rfl, fun _ => rfl⟩
theorem ldSpD16 (v : Word) : Statement (.ldSpD16 v) := ⟨_, rfl, fun _ => rfl⟩
theorem ldIndHlDecA : Statement .ldIndHlDecA := ⟨_, rfl, fun _ => rfl⟩
theorem incSp : Statement .incSp := ⟨_, rfl, fun _ => rfl⟩
theorem incIndHl : Statement .incIndHl := ⟨_, rfl, fun _ => rfl⟩
theorem decIndHl : Statement .decIndHl := ⟨_, rfl, fun _ => rfl⟩
theorem ldIndHlD8 (v : Byte) : Statement (.ldIndHlD8 v) := ⟨_, rfl, fun _ => rfl⟩
theorem scf : Statement .scf := ⟨_, rfl, fun _ => rfl⟩
theorem jrCE8 (v : Byte) : Statement (.jrCE8 v) := ⟨_, rfl, fun _ => rfl⟩
theorem addHlSp : Statement .addHlSp := ⟨_, rfl, fun _ => rfl⟩
theorem ldAIndHlDec : Statement .ldAIndHlDec := ⟨_, rfl, fun _ => rfl⟩
theorem decSp : Statement .decSp := ⟨_, rfl, fun _ => rfl⟩
theorem incA : Statement .incA := ⟨_, rfl, fun _ => rfl⟩
theorem decA : Statement .decA := ⟨_, rfl, fun _ => rfl⟩
theorem ldAD8 (v : Byte) : Statement (.ldAD8 v) := ⟨_, rfl, fun _ => rfl⟩
theorem ccf : Statement .ccf := ⟨_, rfl, fun _ => rfl⟩
theorem ldBB : Statement .ldBB := ⟨_, rfl, fun _ => rfl⟩
theorem ldBC : Statement .ldBC := ⟨_, rfl, fun _ => rfl⟩
theorem ldBD : Statement .ldBD := ⟨_, rfl, fun _ => rfl⟩
theorem ldBE : Statement .ldBE := ⟨_, rfl, fun _ => rfl⟩
theorem ldBH : Statement .ldBH := ⟨_, rfl, fun _ => rfl⟩
theorem ldBL : Statement .ldBL := ⟨_, rfl, fun _ => rfl⟩
theorem ldBIndHl : Statement .ldBIndHl := ⟨_, rfl, fun _ => rfl⟩
theorem ldBA : Statement .ldBA := ⟨_, rfl, fun _ => rfl⟩
theorem ldCB : Statement .ldCB := ⟨_, rfl, fun _ => rfl⟩
theorem ldCC : Statement .ldCC := ⟨_, rfl, fun _ => rfl⟩
theorem ldCD : Statement .ldCD := ⟨_, rfl, fun _ => rfl⟩
theorem ldCE : Statement .ldCE := ⟨_, rfl, fun _ => rfl⟩
theorem ldCH : Statement .ldCH := ⟨_, rfl, fun _ => rfl⟩
theorem ldCL : Statement .ldCL := ⟨_, rfl, fun _ => rfl⟩
theorem ldCIndHl : Statement .ldCIndHl := ⟨_, rfl, fun _ => rfl⟩
theorem ldCA : Statement .ldCA := ⟨_, rfl, fun _ => rfl⟩
theorem ldDB : Statement .ldDB := ⟨_, rfl, fun _ => rfl⟩
theorem ldDC : Statement .ldDC := ⟨_, rfl, fun _ => rfl⟩
theorem ldDD : Statement .ldDD := ⟨_, rfl, fun _ => rfl⟩
theorem ldDE : Statement .ldDE := ⟨_, rfl, fun _ => rfl⟩
theorem ldDH : Statement .ldDH := ⟨_, rfl, fun _ => rfl⟩
theorem ldDL : Statement .ldDL := ⟨_, rfl, fun _ => rfl⟩
theorem ldDIndHl : Statement .ldDIndHl := ⟨_, rfl, fun _ => rfl⟩
theorem ldDA : Statement .ldDA := ⟨_, rfl, fun _ => rfl⟩
theorem ldEB : Statement .ldEB := ⟨_, rfl, fun _ => rfl⟩
theorem ldEC : Statement .ldEC := ⟨_, rfl, fun _ => rfl⟩
theorem ldED : Statement .ldED := ⟨_, rfl, fun _ => rfl⟩
theorem ldEE : Statement .ldEE := ⟨_, rfl, fun _ => rfl⟩
theorem ldEH : Statement .ldEH := ⟨_, rfl, fun _ => rfl⟩
theorem ldEL : Statement .ldEL := ⟨_, rfl, fun _ => rfl⟩
theorem ldEIndHl : Statement .ldEIndHl := ⟨_, rfl, fun _ => rfl⟩
theorem ldEA : Statement .ldEA := ⟨_, rfl, fun _ => rfl⟩
theorem ldHB : Statement .ldHB := ⟨_, rfl, fun _ => rfl⟩
theorem ldHC : Statement .ldHC := ⟨_, rfl, fun _ => rfl⟩
theorem ldHD : Statement .ldHD := ⟨_, rfl, fun _ => rfl⟩
theorem ldHE : Statement .ldHE := ⟨_, rfl, fun _ => rfl⟩
theorem ldHH : Statement .ldHH := ⟨_, rfl, fun _ => rfl⟩
theorem ldHL : Statement .ldHL := ⟨_, rfl, fun _ => rfl⟩
theorem ldHIndHl : Statement .ldHIndHl := ⟨_, rfl, fun _ => rfl⟩
theorem ldHA : Statement .ldHA := ⟨_, rfl, fun _ => rfl⟩
theorem ldLB : Statement .ldLB := ⟨_, rfl, fun _ => rfl⟩
theorem ldLC : Statement .ldLC := ⟨_, rfl, fun _ => rfl⟩
theorem ldLD : Statement .ldLD := ⟨_, rfl, fun _ => rfl⟩
theorem ldLE : Statement .ldLE := ⟨_, rfl, fun _ => rfl⟩
theorem ldLH : Statement .ldLH := ⟨_, rfl, fun _ => rfl⟩
theorem ldLL : Statement .ldLL := ⟨_, rfl, fun _ => rfl⟩
theorem ldLIndHl : Statement .ldLIndHl := ⟨_, rfl, fun _ => rfl⟩
theorem ldLA : Statement .ldLA := ⟨_, rfl, fun _ => rfl⟩
theorem ldIndHlB : Statement .ldIndHlB := ⟨_, rfl, fun _ => rfl⟩
theorem ldIndHlC : Statement .ldIndHlC := ⟨_, rfl, fun _ => rfl⟩
theorem ldIndHlD : Statement .ldIndHlD := ⟨_, rfl, fun _ => rfl⟩
theorem ldIndHlE : Statement .ldIndHlE := ⟨_, rfl, fun _ => rfl⟩
theorem ldIndHlH : Statement .ldIndHlH := ⟨_, rfl, fun _ => rfl⟩
theorem ldIndHlL : Statement .ldIndHlL := ⟨_, rfl, fun _ => rfl⟩
theorem halt : Statement .halt := ⟨_, rfl, fun _ => rfl⟩
theorem ldIndHlA : Statement .ldIndHlA := ⟨_, rfl, fun _ => rfl⟩
theorem ldAB : Statement .ldAB := ⟨_, rfl, fun _ => rfl⟩
theorem ldAC : Statement .ldAC := ⟨_, rfl, fun _ => rfl⟩
theorem ldAD : Statement .ldAD := ⟨_, rfl, fun _ => rfl⟩
theorem ldAE : Statement .ldAE := ⟨_, rfl, fun _ => rfl⟩
theorem ldAH : Statement .ldAH := ⟨_, rfl, fun _ => rfl⟩
theorem ldAL : Statement .ldAL := ⟨_, rfl, fun _ => rfl⟩
theorem ldAIndHl : Statement .ldAIndHl := ⟨_, rfl, fun _ => rfl⟩
theorem ldAA : Statement .ldAA := ⟨_, rfl, fun _ => rfl⟩
theorem addAB : Statement .addAB := ⟨_, rfl, fun _ => rfl⟩
theorem addAC : Statement .addAC := ⟨_, rfl, fun _ => rfl⟩
theorem addAD : Statement .addAD := ⟨_, rfl, fun _ => rfl⟩
theorem addAE : Statement .addAE := ⟨_, rfl, fun _ => rfl⟩
theorem addAH : Statement .addAH := ⟨_, rfl, fun _ => rfl⟩
theorem addAL : Statement .addAL := ⟨_, rfl, fun _ => rfl⟩
theorem addAIndHl : Statement .addAIndHl := ⟨_, rfl, fun _ => rfl⟩
theorem addAA : Statement .addAA := ⟨_, rfl, fun _ => rfl⟩
theorem adcAB : Statement .adcAB := ⟨_, rfl, fun _ => rfl⟩
theorem adcAC : Statement .adcAC := ⟨_, rfl, fun _ => rfl⟩
theorem adcAD : Statement .adcAD := ⟨_, rfl, fun _ => rfl⟩
theorem adcAE : Statement .adcAE := ⟨_, rfl, fun _ => rfl⟩
theorem adcAH : Statement .adcAH := ⟨_, rfl, fun _ => rfl⟩
theorem adcAL : Statement .adcAL := ⟨_, rfl, fun _ => rfl⟩
theorem adcAIndHl : Statement .adcAIndHl := ⟨_, rfl, fun _ => rfl⟩
theorem adcAA : Statement .adcAA := ⟨_, rfl, fun _ => rfl⟩
theorem subB : Statement .subB := ⟨_, rfl, fun _ => rfl⟩
theorem subC : Statement .subC := ⟨_, rfl, fun _ => rfl⟩
theorem subD : Statement .subD := ⟨_, rfl, fun _ => rfl⟩
theorem subE : Statement .subE := ⟨_, rfl, fun _ => rfl⟩
theorem subH : Statement .subH := ⟨_, rfl, fun _ => rfl⟩
theorem subL : Statement .subL := ⟨_, rfl, fun _ => rfl⟩
theorem subIndHl : Statement .subIndHl := ⟨_, rfl, fun _ => rfl⟩
theorem subA : Statement .subA := ⟨_, rfl, fun _ => rfl⟩
theorem sbcAB : Statement .sbcAB := ⟨_, rfl, fun _ => rfl⟩
theorem sbcAC : Statement .sbcAC := ⟨_, rfl, fun _ => rfl⟩
theorem sbcAD : Statement .sbcAD := ⟨_, rfl, fun _ => rfl⟩
theorem sbcAE : Statement .sbcAE := ⟨_, rfl, fun _ => rfl⟩
theorem sbcAH : Statement .sbcAH := ⟨_, rfl, fun _ => rfl⟩
theorem sbcAL : Statement .sbcAL := ⟨_, rfl, fun _ => rfl⟩
theorem sbcAIndHl : Statement .sbcAIndHl := ⟨_, rfl, fun _ => rfl⟩
theorem sbcAA : Statement .sbcAA := ⟨_, rfl, fun _ => rfl⟩
theorem andB : Statement .andB := ⟨_, rfl, fun _ => rfl⟩
theorem andC : Statement .andC := ⟨_, rfl, fun _ => rfl⟩
theorem andD : Statement .andD := ⟨_, rfl, fun _ => rfl⟩
theorem andE : Statement .andE := ⟨_, rfl, fun _ => rfl⟩
theorem andH : Statement .andH := ⟨_, rfl, fun _ => rfl⟩
theorem andL : Statement .andL := ⟨_, rfl, fun _ => rfl⟩
theorem andIndHl : Statement .andIndHl := ⟨_, rfl, fun _ => rfl⟩
theorem andA : Statement .andA := ⟨_, rfl, fun _ => rfl⟩
theorem xorB : Statement .xorB := ⟨_, rfl, fun _ => rfl⟩
theorem xorC : Statement .xorC := ⟨_, rfl, fun _ => rfl⟩
theorem xorD : Statement .xorD := ⟨_, rfl, fun _ => rfl⟩
theorem xorE : Statement .xorE := ⟨_, rfl, fun _ => rfl⟩
theorem xorH : Statement .xorH := ⟨_, rfl, fun _ => rfl⟩
theorem xorL : Statement .xorL := ⟨_, rfl, fun _ => rfl⟩
theorem xorIndHl : Statement .xorIndHl := ⟨_, rfl, fun _ => rfl⟩
theorem xorA : Statement .xorA := ⟨_, rfl, fun _ => rfl⟩
theorem orB : Statement .orB := ⟨_, rfl, fun _ => rfl⟩
theorem orC : Statement .orC := ⟨_, rfl, fun _ => rfl⟩
theorem orD : Statement .orD := ⟨_, rfl, fun _ => rfl⟩
theorem orE : Statement .orE := ⟨_, rfl, fun _ => rfl⟩
theorem orH : Statement .orH := ⟨_, rfl, fun _ => rfl⟩
theorem orL : Statement .orL := ⟨_, rfl, fun _ => rfl⟩
theorem orIndHl : Statement .orIndHl := ⟨_, rfl, fun _ => rfl⟩
theorem orA : Statement .orA := ⟨_, rfl, fun _ => rfl⟩
theorem cpB : Statement .cpB := ⟨_, rfl, fun _ => rfl⟩
theorem cpC : Statement .cpC := ⟨_, rfl, fun _ => rfl⟩
theorem cpD : Statement .cpD := ⟨_, rfl, fun _ => rfl⟩
theorem cpE : Statement .cpE := ⟨_, rfl, fun _ => rfl⟩
theorem cpH : Statement .cpH := ⟨_, rfl, fun _ => rfl⟩
theorem cpL : Statement .cpL := ⟨_, rfl, fun _ => rfl⟩
theorem cpIndHl : Statement .cpIndHl := ⟨_, rfl, fun _ => rfl⟩
theorem cpA : Statement .cpA := ⟨_, rfl, fun _ => rfl⟩
theorem retNz : Statement .retNz := ⟨_, rfl, fun _ => rfl⟩
theorem popBc : Statement .popBc := ⟨_, rfl, fun _ => rfl⟩
theorem jpNzA16 (v : Word) : Statement (.jpNzA16 v) := ⟨_, rfl, fun _ => rfl⟩
theorem jpA16 (v : Word) : Statement (.jpA16 v) := ⟨_, rfl, fun _ => rfl⟩
theorem callNzA16 (v : Word) : Statement (.callNzA16 v) := ⟨_, rfl, fun _ => rfl⟩
theorem pushBc : Statement .pushBc := ⟨_, rfl, fun _ => rfl⟩
theorem addAD8 (v : Byte) : Statement (.addAD8 v) := ⟨_, rfl, fun _ => rfl⟩
theorem rst00 : Statement .rst00 := ⟨_, rfl, fun _ => rfl⟩
theorem retZ : Statement .retZ := ⟨_, rfl, fun _ => rfl⟩
theorem ret : Statement .ret := ⟨_, rfl, fun _ => rfl⟩
theorem jpZA16 (v : Word) : Statement (.jpZA16 v) := ⟨_, rfl, fun _ => rfl⟩
theorem prefixCb : Statement .prefixCb := ⟨_, rfl, fun h => absurd h (by decide)⟩
theorem callZA16 (v : Word) : Statement (.callZA16 v) := ⟨_, rfl, fun _ => rfl⟩
theorem callA16 (v : Word) : Statement (.callA16 v) := ⟨_, rfl, fun _ => rfl⟩
theorem adcAD8 (v : Byte) : Statement (.adcAD8 v) := ⟨_, rfl, fun _ => rfl⟩
theorem rst08 : Statement .rst08 := ⟨_, rfl, fun _ => rfl⟩
theorem retNc : Statement .retNc := ⟨_, rfl, fun _ => rfl⟩
theorem popDe : Statement .popDe := ⟨_, rfl, fun _ => rfl⟩
theorem jpNcA16 (v : Word) : Statement (.jpNcA16 v) := ⟨_, rfl, fun _ => rfl⟩
theorem illegalD3 : Statement .illegalD3 := ⟨_, rfl, fun _ => rfl⟩
theorem callNcA16 (v : Word) : Statement (.callNcA16 v) := ⟨_, rfl, fun _ => rfl⟩
theorem pushDe : Statement .pushDe := ⟨_, rfl, fun _ => rfl⟩
theorem subD8 (v : Byte) : Statement (.subD8 v) := ⟨_, rfl, fun _ => rfl⟩
theorem rst10 : Statement .rst10 := ⟨_, rfl, fun _ => rfl⟩
theorem retC : Statement .retC := ⟨_, rfl, fun _ => rfl⟩
theorem reti : Statement .reti := ⟨_, rfl, fun _ => rfl⟩
theorem jpCA16 (v : Word) : Statement (.jpCA16 v) := ⟨_, rfl, fun _ => rfl⟩
theorem illegalDB : Statement .illegalDB := ⟨_, rfl, fun _ => rfl⟩
theorem callCA16 (v : Word) : Statement (.callCA16 v) := ⟨_, rfl, fun _ => rfl⟩
theorem illegalDD : Statement .illegalDD := ⟨_, rfl, fun _ => rfl⟩
theorem sbcAD8 (v : Byte) : Statement (.sbcAD8 v) := ⟨_, rfl, fun _ => rfl⟩
theorem rst18 : Statement .rst18 := ⟨_, rfl, fun _ => rfl⟩
theorem ldhIndA8A (v : Byte) : Statement (.ldhIndA8A v) := ⟨_, rfl, fun _ => rfl⟩
theorem popHl : Statement .popHl := ⟨_, rfl, fun _ => rfl⟩
theorem ldIndCA : Statement .ldIndCA := ⟨_, rfl, fun _ => rfl⟩
theorem illegalE3 : Statement .illegalE3 := ⟨_, rfl, fun _ => rfl⟩
theorem illegalE4 : Statement .illegalE4 := ⟨_, rfl, fun _ => rfl⟩
theorem pushHl : Statement .pushHl := ⟨_, rfl, fun _ => rfl⟩
theorem andD8 (v : Byte) : Statement (.andD8 v) := ⟨_, rfl, fun _ => rfl⟩
theorem rst20 : Statement .rst20 := ⟨_, rfl, fun _ => rfl⟩
theorem addSpE8 (v : Byte) : Statement (.addSpE8 v) := ⟨_, rfl, fun _ => rfl⟩
theorem jpHl : Statement .jpHl := ⟨_, rfl, fun _ => rfl⟩
theorem ldIndA16A (v : Word) : Statement (.ldIndA16A v) := ⟨_, rfl, fun _ => rfl⟩
theorem illegalEB : Statement .illegalEB := ⟨_, rfl, fun _ => rfl⟩
theorem illegalEC : Statement .illegalEC := ⟨_, rfl, fun _ => rfl⟩
theorem illegalED : Statement .illegalED := ⟨_, rfl, fun _ => rfl⟩
theorem xorD8 (v : Byte) : Statement (.xorD8 v) := ⟨_, rfl, fun _ => rfl⟩
theorem rst28 : Statement .rst28 := ⟨_, rfl, fun _ => rfl⟩
theorem ldhAIndA8 (v : Byte) : Statement (.ldhAIndA8 v) := ⟨_, rfl, fun _ => rfl⟩
theorem popAf : Statement .popAf := ⟨_, rfl, fun _ => rfl⟩
theorem ldAIndC : Statement .ldAIndC := ⟨_, rfl, fun _ => rfl⟩
theorem di : Statement .di := ⟨_, rfl, fun _ => rfl⟩
theorem illegalF4 : Statement .illegalF4 := ⟨_, rfl, fun _ => rfl⟩
theorem pushAf : Statement .pushAf := ⟨_, rfl, fun _ => rfl⟩
theorem orD8 (v : Byte) : Statement (.orD8 v) := ⟨_, rfl, fun _ => rfl⟩
theorem rst30 : Statement .rst30 := ⟨_, rfl, fun _ => rfl⟩
theorem ldHlSpE8 (v : Byte) : Statement (.ldHlSpE8 v) := ⟨_, rfl, fun _ => rfl⟩
theorem ldSpHl : Statement .ldSpHl := ⟨_, rfl, fun _ => rfl⟩
theorem ldAIndA16 (v : Word) : Statement (.ldAIndA16 v) := ⟨_, rfl, fun _ => rfl⟩
theorem ei : Statement .ei := ⟨_, rfl, fun _ => rfl⟩
theorem illegalFC : Statement .illegalFC := ⟨_, rfl, fun _ => rfl⟩
theorem illegalFD : Statement .illegalFD := ⟨_, rfl, fun _ => rfl⟩
theorem cpD8 (v : Byte) : Statement (.cpD8 v) := ⟨_, rfl, fun _ => rfl⟩
theorem rst38 : Statement .rst38 := ⟨_, rfl, fun _ => rfl⟩
theorem rlcB : Statement .rlcB := ⟨_, rfl, fun _ => rfl⟩
theorem rlcC : Statement .rlcC := ⟨_, rfl, fun _ => rfl⟩
theorem rlcD : Statement .rlcD := ⟨_, rfl, fun _ => rfl⟩
theorem rlcE : Statement .rlcE := ⟨_, rfl, fun _ => rfl⟩
theorem rlcH : Statement .rlcH := ⟨_, rfl, fun _ => rfl⟩
theorem rlcL : Statement .rlcL := ⟨_, rfl, fun _ => rfl⟩
theorem rlcIndHl : Statement .rlcIndHl := ⟨_, rfl, fun _ => rfl⟩
theorem rlcA : Statement .rlcA := ⟨_, rfl, fun _ => rfl⟩
theorem rrcB : Statement .rrcB := ⟨_, rfl, fun _ => rfl⟩
theorem rrcC : Statement .rrcC := ⟨_, rfl, fun _ => rfl⟩
theorem rrcD : Statement .rrcD := ⟨_, rfl, fun _ => rfl⟩
theorem rrcE : Statement .rrcE := ⟨_, rfl, fun _ => rfl⟩
theorem rrcH : Statement .rrcH := ⟨_, rfl, fun _ => rfl⟩
theorem rrcL : Statement .rrcL := ⟨_, rfl, fun _ => rfl⟩
theorem rrcIndHl : Statement .rrcIndHl := ⟨_, rfl, fun _ => rfl⟩
theorem rrcA : Statement .rrcA := ⟨_, rfl, fun _ => rfl⟩
theorem rlB : Statement .rlB := ⟨_, rfl, fun _ => rfl⟩
theorem rlC : Statement .rlC := ⟨_, rfl, fun _ => rfl⟩
theorem rlD : Statement .rlD := ⟨_, rfl, fun _ => rfl⟩
theorem rlE : Statement .rlE := ⟨_, rfl, fun _ => rfl⟩
theorem rlH : Statement .rlH := ⟨_, rfl, fun _ => rfl⟩
theorem rlL : Statement .rlL := ⟨_, rfl, fun _ => rfl⟩
theorem rlIndHl : Statement .rlIndHl := ⟨_, rfl, fun _ => rfl⟩
theorem rlA : Statement .rlA := ⟨_, rfl, fun _ => rfl⟩
theorem rrB : Statement .rrB := ⟨_, rfl, fun _ => rfl⟩
theorem rrC : Statement .rrC := ⟨_, rfl, fun _ => rfl⟩
theorem rrD : Statement .rrD := ⟨_, rfl, fun _ => rfl⟩
theorem rrE : Statement .rrE := ⟨_, rfl, fun _ => rfl⟩
theorem rrH : Statement .rrH := ⟨_, rfl, fun _ => rfl⟩
theorem rrL : Statement .rrL := ⟨_, rfl, fun _ => rfl⟩
theorem rrIndHl : Statement .rrIndHl := ⟨_, rfl, fun _ => rfl⟩
theorem rrA : Statement .rrA := ⟨_, rfl, fun _ => rfl⟩
theorem slaB : Statement .slaB := ⟨_, rfl, fun _ => rfl⟩
theorem slaC : Statement .slaC := ⟨_, rfl, fun _ => rfl⟩
theorem slaD : Statement .slaD := ⟨_, rfl, fun _ => rfl⟩
theorem slaE : Statement .slaE := ⟨_, rfl, fun _ => rfl⟩
theorem slaH : Statement .slaH := ⟨_, rfl, fun _ => rfl⟩
theorem slaL : Statement .slaL := ⟨_, rfl, fun _ => rfl⟩
theorem slaIndHl : Statement .slaIndHl := ⟨_, rfl, fun _ => rfl⟩
theorem slaA : Statement .slaA := ⟨_, rfl, fun _ => rfl⟩
theorem sraB : Statement .sraB := ⟨_, rfl, fun _ => rfl⟩
theorem sraC : Statement .sraC := ⟨_, rfl, fun _ => rfl⟩
theorem sraD : Statement .sraD := ⟨_, rfl, fun _ => rfl⟩
theorem sraE : Statement .sraE := ⟨_, rfl, fun _ => rfl⟩
theorem sraH : Statement .sraH := ⟨_, rfl, fun _ => rfl⟩
theorem sraL : Statement .sraL := ⟨_, rfl, fun _ => rfl⟩
theorem sraIndHl : Statement .sraIndHl := ⟨_, rfl, fun _ => rfl⟩
theorem sraA : Statement .sraA := ⟨_, rfl, fun _ => rfl⟩
theorem swapB : Statement .swapB := ⟨_, rfl, fun _ => rfl⟩
theorem swapC : Statement .swapC := ⟨_, rfl, fun _ => rfl⟩
theorem swapD : Statement .swapD := ⟨_, rfl, fun _ => rfl⟩
theorem swapE : Statement .swapE := ⟨_, rfl, fun _ => rfl⟩
theorem swapH : Statement .swapH := ⟨_, rfl, fun _ => rfl⟩
theorem swapL : Statement .swapL := ⟨_, rfl, fun _ => rfl⟩
theorem swapIndHl : Statement .swapIndHl := ⟨_, rfl, fun _ => rfl⟩
theorem swapA : Statement .swapA := ⟨_, rfl, fun _ => rfl⟩
theorem srlB : Statement .srlB := ⟨_, rfl, fun _ => rfl⟩
theorem srlC : Statement .srlC := ⟨_, rfl, fun _ => rfl⟩
theorem srlD : Statement .srlD := ⟨_, rfl, fun _ => rfl⟩
theorem srlE : Statement .srlE := ⟨_, rfl, fun _ => rfl⟩
theorem srlH : Statement .srlH := ⟨_, rfl, fun _ => rfl⟩
theorem srlL : Statement .srlL := ⟨_, rfl, fun _ => rfl⟩
theorem srlIndHl : Statement .srlIndHl := ⟨_, rfl, fun _ => rfl⟩
theorem srlA : Statement .srlA := ⟨_, rfl, fun _ => rfl⟩
theorem bit0B : Statement .bit0B := ⟨_, rfl, fun _ => rfl⟩
theorem bit0C : Statement .bit0C := ⟨_, rfl, fun _ => rfl⟩
theorem bit0D : Statement .bit0D := ⟨_, rfl, fun _ => rfl⟩
theorem bit0E : Statement .bit0E := ⟨_, rfl, fun _ => rfl⟩
theorem bit0H : Statement .bit0H := ⟨_, rfl, fun _ => rfl⟩
theorem bit0L : Statement .bit0L := ⟨_, rfl, fun _ => rfl⟩
theorem bit0IndHl : Statement .bit0IndHl := ⟨_, rfl, fun _ => rfl⟩
theorem bit0A : Statement .bit0A := ⟨_, rfl, fun _ => rfl⟩
theorem bit1B : Statement .bit1B := ⟨_, rfl, fun _ => rfl⟩
theorem bit1C : Statement .bit1C := ⟨_, rfl, fun _ => rfl⟩
theorem bit1D : Statement .bit1D := ⟨_, rfl, fun _ => rfl⟩
theorem bit1E : Statement .bit1E := ⟨_, rfl, fun _ => rfl⟩
theorem bit1H : Statement .bit1H := ⟨_, rfl, fun _ => rfl⟩
theorem bit1L : Statement .bit1L := ⟨_, rfl, fun _ => rfl⟩
theorem bit1IndHl : Statement .bit1IndHl := ⟨_, rfl, fun _ => rfl⟩
theorem bit1A : Statement .bit1A := ⟨_, rfl, fun _ => rfl⟩
theorem bit2B : Statement .bit2B := ⟨_, rfl, fun _ => rfl⟩
theorem bit2C : Statement .bit2C := ⟨_, rfl, fun _ => rfl⟩
theorem bit2D : Statement .bit2D := ⟨_, rfl, fun _ => rfl⟩
theorem bit2E : Statement .bit2E := ⟨_, rfl, fun _ => rfl⟩
theorem bit2H : Statement .bit2H := ⟨_, rfl, fun _ => rfl⟩
theorem bit2L : Statement .bit2L := ⟨_, rfl, fun _ => rfl⟩
theorem bit2IndHl : Statement .bit2IndHl := ⟨_, rfl, fun _ => rfl⟩
theorem bit2A : Statement .bit2A := ⟨_, rfl, fun _ => rfl⟩
theorem bit3B : Statement .bit3B := ⟨_, rfl, fun _ => rfl⟩
theorem bit3C : Statement .bit3C := ⟨_, rfl, fun _ => rfl⟩
theorem bit3D : Statement .bit3D := ⟨_, rfl, fun _ => rfl⟩
theorem bit3E : Statement .bit3E := ⟨_, rfl, fun _ => rfl⟩
theorem bit3H : Statement .bit3H := ⟨_, rfl, fun _ => rfl⟩
theorem bit3L : Statement .bit3L := ⟨_, rfl, fun _ => rfl⟩
theorem bit3IndHl : Statement .bit3IndHl := ⟨_, rfl, fun _ => rfl⟩
theorem bit3A : Statement .bit3A := ⟨_, rfl, fun _ => rfl⟩
theorem bit4B : Statement .bit4B := ⟨_, rfl, fun _ => rfl⟩
theorem bit4C : Statement .bit4C := ⟨_, rfl, fun _ => rfl⟩
theorem bit4D : Statement .bit4D := ⟨_, rfl, fun _ => rfl⟩
theorem bit4E : Statement .bit4E := ⟨_, rfl, fun _ => rfl⟩
theorem bit4H : Statement .bit4H := ⟨_, rfl, fun _ => rfl⟩
theorem bit4L : Statement .bit4L := ⟨_, rfl, fun _ => rfl⟩
theorem bit4IndHl : Statement .bit4IndHl := ⟨_, rfl, fun _ => rfl⟩
theorem bit4A : Statement .bit4A := ⟨_, rfl, fun _ => rfl⟩
theorem bit5B : Statement .bit5B := ⟨_, rfl, fun _ => rfl⟩
theorem bit5C : Statement .bit5C := ⟨_, rfl, fun _ => rfl⟩
theorem bit5D : Statement .bit5D := ⟨_, rfl, fun _ => rfl⟩
theorem bit5E : Statement .bit5E := ⟨_, rfl, fun _ => rfl⟩
theorem bit5H : Statement .bit5H := ⟨_, rfl, fun _ => rfl⟩
theorem bit5L : Statement .bit5L := ⟨_, rfl, fun _ => rfl⟩
theorem bit5IndHl : Statement .bit5IndHl := ⟨_, rfl, fun _ => rfl⟩
theorem bit5A : Statement .bit5A := ⟨_, rfl, fun _ => rfl⟩
theorem bit6B : Statement .bit6B := ⟨_, rfl, fun _ => rfl⟩
theorem bit6C : Statement .bit6C := ⟨_, rfl, fun _ => rfl⟩
theorem bit6D : Statement .bit6D := ⟨_, rfl, fun _ => rfl⟩
theorem bit6E : Statement .bit6E := ⟨_, rfl, fun _ => rfl⟩
theorem bit6H : Statement .bit6H := ⟨_, rfl, fun _ => rfl⟩
theorem bit6L : Statement .bit6L := ⟨_, rfl, fun _ => rfl⟩
theorem bit6IndHl : Statement .bit6IndHl := ⟨_, rfl, fun _ => rfl⟩
theorem bit6A : Statement .bit6A := ⟨_, rfl, fun _ => rfl⟩
theorem bit7B : Statement .bit7B := ⟨_, rfl, fun _ => rfl⟩
theorem bit7C : Statement .bit7C := ⟨_, rfl, fun _ => rfl⟩
theorem bit7D : Statement .bit7D := ⟨_, rfl, fun _ => rfl⟩
theorem bit7E : Statement .bit7E := ⟨_, rfl, fun _ => rfl⟩
theorem bit7H : Statement .bit7H := ⟨_, rfl, fun _ => rfl⟩
theorem bit7L : Statement .bit7L := ⟨_, rfl, fun _ => rfl⟩
theorem bit7IndHl : Statement .bit7IndHl := ⟨_, rfl, fun _ => rfl⟩
theorem bit7A : Statement .bit7A := ⟨_, rfl, fun _ => rfl⟩
theorem res0B : Statement .res0B := ⟨_, rfl, fun _ => rfl⟩
theorem res0C : Statement .res0C := ⟨_, rfl, fun _ => rfl⟩
theorem res0D : Statement .res0D := ⟨_, rfl, fun _ => rfl⟩
theorem res0E : Statement .res0E := ⟨_, rfl, fun _ => rfl⟩
theorem res0H : Statement .res0H := ⟨_, rfl, fun _ => rfl⟩
theorem res0L : Statement .res0L := ⟨_, rfl, fun _ => rfl⟩
theorem res0IndHl : Statement .res0IndHl := ⟨_, rfl, fun _ => rfl⟩
theorem res0A : Statement .res0A := ⟨_, rfl, fun _ => rfl⟩
theorem res1B : Statement .res1B := ⟨_, rfl, fun _ => rfl⟩
theorem res1C : Statement .res1C := ⟨_, rfl, fun _ => rfl⟩
theorem res1D : Statement .res1D := ⟨_, rfl, fun _ => rfl⟩
theorem res1E : Statement .res1E := ⟨_, rfl, fun _ => rfl⟩
theorem res1H : Statement .res1H := ⟨_, rfl, fun _ => rfl⟩
theorem res1L : Statement .res1L := ⟨_, rfl, fun _ => rfl⟩
theorem res1IndHl : Statement .res1IndHl := ⟨_, rfl, fun _ => rfl⟩
theorem res1A : Statement .res1A := ⟨_, rfl, fun _ => rfl⟩
theorem res2B : Statement .res2B := ⟨_, rfl, fun _ => rfl⟩
theorem res2C : Statement .res2C := ⟨_, rfl, fun _ => rfl⟩
theorem res2D : Statement .res2D := ⟨_, rfl, fun _ => rfl⟩
theorem res2E : Statement .res2E := ⟨_, rfl, fun _ => rfl⟩
theorem res2H : Statement .res2H := ⟨_, rfl, fun _ => rfl⟩
theorem res2L : Statement .res2L := ⟨_, rfl, fun _ => rfl⟩
theorem res2IndHl : Statement .res2IndHl := ⟨_, rfl, fun _ => rfl⟩
theorem res2A : Statement .res2A := ⟨_, rfl, fun _ => rfl⟩
theorem res3B : Statement .res3B := ⟨_, rfl, fun _ => rfl⟩
theorem res3C : Statement .res3C := ⟨_, rfl, fun _ => rfl⟩
theorem res3D : Statement .res3D := ⟨_, rfl, fun _ => rfl⟩
theorem res3E : Statement .res3E := ⟨_, rfl, fun _ => rfl⟩
theorem res3H : Statement .res3H := ⟨_, rfl, fun _ => rfl⟩
theorem res3L : Statement .res3L := ⟨_, rfl, fun _ => rfl⟩
theorem res3IndHl : Statement .res3IndHl := ⟨_, rfl, fun _ => rfl⟩
theorem res3A : Statement .res3A := ⟨_, rfl, fun _ => rfl⟩
theorem res4B : Statement .res4B := ⟨_, rfl, fun _ => rfl⟩
theorem res4C : Statement .res4C := ⟨_, rfl, fun _ => rfl⟩
theorem res4D : Statement .res4D := ⟨_, rfl, fun _ => rfl⟩
theorem res4E : Statement .res4E := ⟨_, rfl, fun _ => rfl⟩
theorem res4H : Statement .res4H := ⟨_, rfl, fun _ => rfl⟩
theorem res4L : Statement .res4L := ⟨_, rfl, fun _ => rfl⟩
theorem res4IndHl : Statement .res4IndHl := ⟨_, rfl, fun _ => rfl⟩
theorem res4A : Statement .res4A := ⟨_, rfl, fun _ => rfl⟩
theorem res5B : Statement .res5B := ⟨_, rfl, fun _ => rfl⟩
theorem res5C : Statement .res5C := ⟨_, rfl, fun _ => rfl⟩
theorem res5D : Statement .res5D := ⟨_, rfl, fun _ => rfl⟩
theorem res5E : Statement .res5E := ⟨_, rfl, fun _ => rfl⟩
theorem res5H : Statement .res5H := ⟨_, rfl, fun _ => rfl⟩
theorem res5L : Statement .res5L := ⟨_, rfl, fun _ => rfl⟩
theorem res5IndHl : Statement .res5IndHl := ⟨_, rfl, fun _ => rfl⟩
theorem res5A : Statement .res5A := ⟨_, rfl, fun _ => rfl⟩
theorem res6B : Statement .res6B := ⟨_, rfl, fun _ => rfl⟩
theorem res6C : Statement .res6C := ⟨_, rfl, fun _ => rfl⟩
theorem res6D : Statement .res6D := ⟨_, rfl, fun _ => rfl⟩
theorem res6E : Statement .res6E := ⟨_, rfl, fun _ => rfl⟩
theorem res6H : Statement .res6H := ⟨_, rfl, fun _ => rfl⟩
theorem res6L : Statement .res6L := ⟨_, rfl, fun _ => rfl⟩
theorem res6IndHl : Statement .res6IndHl := ⟨_, rfl, fun _ => rfl⟩
theorem res6A : Statement .res6A := ⟨_, rfl, fun _ => rfl⟩
theorem res7B : Statement .res7B := ⟨_, rfl, fun _ => rfl⟩
theorem res7C : Statement .res7C := ⟨_, rfl, fun _ => rfl⟩
theorem res7D : Statement .res7D := ⟨_, rfl, fun _ => rfl⟩
theorem res7E : Statement .res7E := ⟨_, rfl, fun _ => rfl⟩
theorem res7H : Statement .res7H := ⟨_, rfl, fun _ => rfl⟩
theorem res7L : Statement .res7L := ⟨_, rfl, fun _ => rfl⟩
theorem res7IndHl : Statement .res7IndHl := ⟨_, rfl, fun _ => rfl⟩
theorem res7A : Statement .res7A := ⟨_, rfl, fun _ => rfl⟩
theorem set0B : Statement .set0B := ⟨_, rfl, fun _ => rfl⟩
theorem set0C : Statement .set0C := ⟨_, rfl, fun _ => rfl⟩
theorem set0D : Statement .set0D := ⟨_, rfl, fun _ => rfl⟩
theorem set0E : Statement .set0E := ⟨_, rfl, fun _ => rfl⟩
theorem set0H : Statement .set0H := ⟨_, rfl, fun _ => rfl⟩
theorem set0L : Statement .set0L := ⟨_, rfl, fun _ => rfl⟩
theorem set0IndHl : Statement .set0IndHl := ⟨_, rfl, fun _ => rfl⟩
theorem set0A : Statement .set0A := ⟨_, rfl, fun _ => rfl⟩
theorem set1B : Statement .set1B := ⟨_, rfl, fun _ => rfl⟩
theorem set1C : Statement .set1C := ⟨_, rfl, fun _ => rfl⟩
theorem set1D : Statement .set1D := ⟨_, rfl, fun _ => rfl⟩
theorem set1E : Statement .set1E := ⟨_, rfl, fun _ => rfl⟩
theorem set1H : Statement .set1H := ⟨_, rfl, fun _ => rfl⟩
theorem set1L : Statement .set1L := ⟨_, rfl, fun _ => rfl⟩
theorem set1IndHl : Statement .set1IndHl := ⟨_, rfl, fun _ => rfl⟩
theorem set1A : Statement .set1A := ⟨_, rfl, fun _ => rfl⟩
theorem set2B : Statement .set2B := ⟨_, rfl, fun _ => rfl⟩
theorem set2C : Statement .set2C := ⟨_, rfl, fun _ => rfl⟩
theorem set2D : Statement .set2D := ⟨_, rfl, fun _ => rfl⟩
theorem set2E : Statement .set2E := ⟨_, rfl, fun _ => rfl⟩
theorem set2H : Statement .set2H := ⟨_, rfl, fun _ => rfl⟩
theorem set2L : Statement .set2L := ⟨_, rfl, fun _ => rfl⟩
theorem set2IndHl : Statement .set2IndHl := ⟨_, rfl, fun _ => rfl⟩
theorem set2A : Statement .set2A := ⟨_, rfl, fun _ => rfl⟩
theorem set3B : Statement .set3B := ⟨_, rfl, fun _ => rfl⟩
theorem set3C : Statement .set3C := ⟨_, rfl, fun _ => rfl⟩
theorem set3D : Statement .set3D := ⟨_, rfl, fun _ => rfl⟩
theorem set3E : Statement .set3E := ⟨_, rfl, fun _ => rfl⟩
theorem set3H : Statement .set3H := ⟨_, rfl, fun _ => rfl⟩
theorem set3L : Statement .set3L := ⟨_, rfl, fun _ => rfl⟩
theorem set3IndHl : Statement .set3IndHl := ⟨_, rfl, fun _ => rfl⟩
theorem set3A : Statement .set3A := ⟨_, rfl, fun _ => rfl⟩
theorem set4B : Statement .set4B := ⟨_, rfl, fun _ => rfl⟩
theorem set4C : Statement .set4C := ⟨_, rfl, fun _ => rfl⟩
theorem set4D : Statement .set4D := ⟨_, rfl, fun _ => rfl⟩
theorem set4E : Statement .set4E := ⟨_, rfl, fun _ => rfl⟩
theorem set4H : Statement .set4H := ⟨_, rfl, fun _ => rfl⟩
theorem set4L : Statement .set4L := ⟨_, rfl, fun _ => rfl⟩
theorem set4IndHl : Statement .set4IndHl := ⟨_, rfl, fun _ => rfl⟩
theorem set4A : Statement .set4A := ⟨_, rfl, fun _ => rfl⟩
theorem set5B : Statement .set5B := ⟨_, rfl, fun _ => rfl⟩
theorem set5C : Statement .set5C := ⟨_, rfl, fun _ => rfl⟩
theorem set5D : Statement .set5D := ⟨_, rfl, fun _ => rfl⟩
theorem set5E : Statement .set5E := ⟨_, rfl, fun _ => rfl⟩
theorem set5H : Statement .set5H := ⟨_, rfl, fun _ => rfl⟩
theorem set5L : Statement .set5L := ⟨_, rfl, fun _ => rfl⟩
theorem set5IndHl : Statement .set5IndHl := ⟨_, rfl, fun _ => rfl⟩
theorem set5A : Statement .set5A := ⟨_, rfl, fun _ => rfl⟩
theorem set6B : Statement .set6B := ⟨_, rfl, fun _ => rfl⟩
theorem set6C : Statement .set6C := ⟨_, rfl, fun _ => rfl⟩
theorem set6D : Statement .set6D := ⟨_, rfl, fun _ => rfl⟩
theorem set6E : Statement .set6E := ⟨_, rfl, fun _ => rfl⟩
theorem set6H : Statement .set6H := ⟨_, rfl, fun _ => rfl⟩
theorem set6L : Statement .set6L := ⟨_, rfl, fun _ => rfl⟩
theorem set6IndHl : Statement .set6IndHl := ⟨_, rfl, fun _ => rfl⟩
theorem set6A : Statement .set6A := ⟨_, rfl, fun _ => rfl⟩
theorem set7B : Statement .set7B := ⟨_, rfl, fun _ => rfl⟩
theorem set7C : Statement .set7C := ⟨_, rfl, fun _ => rfl⟩
theorem set7D : Statement .set7D := ⟨_, rfl, fun _ => rfl⟩
theorem set7E : Statement .set7E := ⟨_, rfl, fun _ => rfl⟩
theorem set7H : Statement .set7H := ⟨_, rfl, fun _ => rfl⟩
theorem set7L : Statement .set7L := ⟨_, rfl, fun _ => rfl⟩
theorem set7IndHl : Statement .set7IndHl := ⟨_, rfl, fun _ => rfl⟩
theorem set7A : Statement .set7A := ⟨_, rfl, fun _ => rfl⟩

end Sys2Proof.Laws.EncodedLength
end

