-- ==== Sys2Proof/Laws/Session.lean ====
section
/-! SUPPORT. What the loader and the start of a session give, said once. -/

namespace Sys2Proof.Machine

/-- An image of zeros lists no byte. -/
theorem imageCells_zeros (n : Nat) : ∀ k, imageCells k (List.replicate n 0#8) = [] := by
  induction n with
  | zero => exact fun _ => rfl
  | succ n ih =>
    intro k
    rw [List.replicate_succ, imageCells, if_pos rfl]
    exact ih (k + 1)

/-- The cartridge of the reset state is what the loader builds from its image (20_memory.md R150). -/
theorem load_resetImage : load defaultTypeMap resetImage = .ok Cart.atReset := by
  have hl : resetImage.length = 0x8000 := List.length_replicate
  have ht : resetImage.getD 0x147 0#8 = 0#8 := List.getD_replicate 0#8 (by decide)
  have hv : typeLookup 0#8 defaultTypeMap = some .noBanking := rfl
  unfold load
  dsimp only
  rw [hl, if_neg (by decide), ht, hv]
  dsimp only
  rw [if_neg (by decide)]
  exact congrArg (fun m => Except.ok (Cart.ofImage .noBanking m 0x8000)) (imageCells_zeros 0x8000 0)

/-- Where the load fails no core exists (60_exceptions.md R404). -/
theorem startSession_of_load_error {types : CartTypeMap} {v : PostBoot} {params : Params} {img : List Byte}
    {e : LoadError} (h : load types img = .error e) : startSession types v params img = .error e := by
  unfold startSession; rw [h]

/-- Where the load succeeds the core is constructed around the controller and powered up once (R480-R482). -/
theorem startSession_of_load_ok {types : CartTypeMap} {v : PostBoot} {params : Params} {img : List Byte} {c : Cart}
    (h : load types img = .ok c) :
    startSession types v params img = .ok (powerUp v (State.constructed c params)) := by
  unfold startSession; rw [h]

/-- Steps after steps. -/
theorem steps_add (a b : Nat) : ∀ s : State, steps (a + b) s = andThen (steps a s) (steps b) := by
  induction a with
  | zero => intro s; rw [Nat.zero_add]; rfl
  | succ a ih =>
    intro s
    rw [show a + 1 + b = (a + b) + 1 by omega, steps, steps]
    cases step s with
    | next t => exact ih t
    | fault _ => rfl
    | refused _ => rfl

end Sys2Proof.Machine
end

