-- ==== Sys2Proof/Tests/Slice0.lean ====
section
/-! SUPPORT. Tests on small states: the ill-formed term, the decoding of every row of the opcode table, vectors of 95_test_vectors.md, and a witness for the hypotheses of every statement. -/

namespace Sys2Proof.Tests

open Sys2Proof.Machine Sys2Proof.Claims

/-! ### Helpers -/

/-- What `p` sees of a next state. -/
def see {α : Type} (r : Out State) (p : State → α) : Option α :=
  match r with
  | .next t => some (p t)
  | .fault _ => none
  | .refused _ => none

/-- The record of a fault, in the state it leaves. -/
def faulted (r : Out State) : Option (Option FaultRecord) :=
  match r with
  | .next _ => none
  | .fault (.unimplementedOpcode _ _ s) => some s.fault
  | .fault (.unimplementedAddress _ _ _ s) => some s.fault
  | .fault (.unmodelledHaltBug _ s) => some s.fault
  | .refused _ => none

/-- One instruction, fetched from bytes placed at PC. -/
def ran (bs : List Byte) (s : State) : Out State := executeOne (placeBytes s.pc bs s)

/-- The byte at an address, where the draw is 0. -/
def byteAt (a : Word) (s : State) : Option Byte := peek 0#8 a s

def withA (v : Byte) (f : Byte) (s : State) : State := { s with regs := { s.regs with a := v }, f := Flags.ofByte f }

def withAb (v b : Byte) (s : State) : State := { s with regs := { s.regs with a := v, b := b } }

def withF (f : Byte) (s : State) : State := { s with f := Flags.ofByte f }

def withReg (r : Reg8) (v : Byte) (s : State) : State := s.setReg r v

def withHl (v : Word) (s : State) : State := s.setPair .hl v

def withBc (v : Word) (s : State) : State := s.setPair .bc v

def withDe (v : Word) (s : State) : State := s.setPair .de v

def withSp (v : Word) (s : State) : State := { s with sp := v }

def withPc (v : Word) (s : State) : State := { s with pc := v }

def withIrq (ime : Bool) (ie iflag : BitVec 5) (s : State) : State :=
  { s with ime := ime, intEnable := ie, intFlag := iflag }

def withPolicy (p : ClearPolicy) (s : State) : State := { s with params := { s.params with ifClearPolicy := p } }

/-- The reset machine. -/
abbrev s0 : State := State.reset

/-- The reset machine with an all-zero 128 KiB switchable-banking image. -/
def banked : State := { s0 with cart := Cart.ofImage .switchableBanking [] 0x20000 }

/-! ### Well-formedness: the lone prefix byte is no instruction (30_encoding.md R191) -/

theorem test_wellFormed_refuses_prefixCb : Instr.wellFormed .prefixCb = false := by decide

theorem test_wellFormed_accepts_nop : Instr.wellFormed .nop = true := by decide

/-! ### Decoding: every row's word, from the match column of the opcode table, operand bytes 0x34 and 0x12 -/

theorem test_decode_base_0x :
    [[0x00#8], [0x01#8, 0x34#8, 0x12#8], [0x02#8], [0x03#8], [0x04#8], [0x05#8], [0x06#8, 0x34#8],
     [0x07#8], [0x08#8, 0x34#8, 0x12#8], [0x09#8], [0x0A#8], [0x0B#8], [0x0C#8], [0x0D#8],
     [0x0E#8, 0x34#8], [0x0F#8]].map decode =
      ([.nop, .ldBcD16 0x1234#16, .ldIndBcA, .incBc, .incB, .decB, .ldBD8 0x34#8, .rlca,
        .ldIndA16Sp 0x1234#16, .addHlBc, .ldAIndBc, .decBc, .incC, .decC, .ldCD8 0x34#8, .rrca] : List Instr).map fun i => .ok (i, []) := rfl

theorem test_decode_base_1x :
    [[0x10#8, 0x34#8], [0x11#8, 0x34#8, 0x12#8], [0x12#8], [0x13#8], [0x14#8], [0x15#8],
     [0x16#8, 0x34#8], [0x17#8], [0x18#8, 0x34#8], [0x19#8], [0x1A#8], [0x1B#8], [0x1C#8],
     [0x1D#8], [0x1E#8, 0x34#8], [0x1F#8]].map decode =
      ([.stop 0x34#8, .ldDeD16 0x1234#16, .ldIndDeA, .incDe, .incD, .decD, .ldDD8 0x34#8, .rla,
        .jrE8 0x34#8, .addHlDe, .ldAIndDe, .decDe, .incE, .decE, .ldED8 0x34#8, .rra] : List Instr).map fun i => .ok (i, []) := rfl

theorem test_decode_base_2x :
    [[0x20#8, 0x34#8], [0x21#8, 0x34#8, 0x12#8], [0x22#8], [0x23#8], [0x24#8], [0x25#8],
     [0x26#8, 0x34#8], [0x27#8], [0x28#8, 0x34#8], [0x29#8], [0x2A#8], [0x2B#8], [0x2C#8],
     [0x2D#8], [0x2E#8, 0x34#8], [0x2F#8]].map decode =
      ([.jrNzE8 0x34#8, .ldHlD16 0x1234#16, .ldIndHlIncA, .incHl, .incH, .decH, .ldHD8 0x34#8,
        .daa, .jrZE8 0x34#8, .addHlHl, .ldAIndHlInc, .decHl, .incL, .decL, .ldLD8 0x34#8, .cpl] : List Instr).map fun i => .ok (i, []) := rfl

theorem test_decode_base_3x :
    [[0x30#8, 0x34#8], [0x31#8, 0x34#8, 0x12#8], [0x32#8], [0x33#8], [0x34#8], [0x35#8],
     [0x36#8, 0x34#8], [0x37#8], [0x38#8, 0x34#8], [0x39#8], [0x3A#8], [0x3B#8], [0x3C#8],
     [0x3D#8], [0x3E#8, 0x34#8], [0x3F#8]].map decode =
      ([.jrNcE8 0x34#8, .ldSpD16 0x1234#16, .ldIndHlDecA, .incSp, .incIndHl, .decIndHl,
        .ldIndHlD8 0x34#8, .scf, .jrCE8 0x34#8, .addHlSp, .ldAIndHlDec, .decSp, .incA, .decA,
        .ldAD8 0x34#8, .ccf] : List Instr).map fun i => .ok (i, []) := rfl

theorem test_decode_base_4x :
    [[0x40#8], [0x41#8], [0x42#8], [0x43#8], [0x44#8], [0x45#8], [0x46#8], [0x47#8], [0x48#8],
     [0x49#8], [0x4A#8], [0x4B#8], [0x4C#8], [0x4D#8], [0x4E#8], [0x4F#8]].map decode =
      ([.ldBB, .ldBC, .ldBD, .ldBE, .ldBH, .ldBL, .ldBIndHl, .ldBA, .ldCB, .ldCC, .ldCD, .ldCE,
        .ldCH, .ldCL, .ldCIndHl, .ldCA] : List Instr).map fun i => .ok (i, []) := rfl

theorem test_decode_base_5x :
    [[0x50#8], [0x51#8], [0x52#8], [0x53#8], [0x54#8], [0x55#8], [0x56#8], [0x57#8], [0x58#8],
     [0x59#8], [0x5A#8], [0x5B#8], [0x5C#8], [0x5D#8], [0x5E#8], [0x5F#8]].map decode =
      ([.ldDB, .ldDC, .ldDD, .ldDE, .ldDH, .ldDL, .ldDIndHl, .ldDA, .ldEB, .ldEC, .ldED, .ldEE,
        .ldEH, .ldEL, .ldEIndHl, .ldEA] : List Instr).map fun i => .ok (i, []) := rfl

theorem test_decode_base_6x :
    [[0x60#8], [0x61#8], [0x62#8], [0x63#8], [0x64#8], [0x65#8], [0x66#8], [0x67#8], [0x68#8],
     [0x69#8], [0x6A#8], [0x6B#8], [0x6C#8], [0x6D#8], [0x6E#8], [0x6F#8]].map decode =
      ([.ldHB, .ldHC, .ldHD, .ldHE, .ldHH, .ldHL, .ldHIndHl, .ldHA, .ldLB, .ldLC, .ldLD, .ldLE,
        .ldLH, .ldLL, .ldLIndHl, .ldLA] : List Instr).map fun i => .ok (i, []) := rfl

theorem test_decode_base_7x :
    [[0x70#8], [0x71#8], [0x72#8], [0x73#8], [0x74#8], [0x75#8], [0x76#8], [0x77#8], [0x78#8],
     [0x79#8], [0x7A#8], [0x7B#8], [0x7C#8], [0x7D#8], [0x7E#8], [0x7F#8]].map decode =
      ([.ldIndHlB, .ldIndHlC, .ldIndHlD, .ldIndHlE, .ldIndHlH, .ldIndHlL, .halt, .ldIndHlA, .ldAB,
        .ldAC, .ldAD, .ldAE, .ldAH, .ldAL, .ldAIndHl, .ldAA] : List Instr).map fun i => .ok (i, []) := rfl

theorem test_decode_base_8x :
    [[0x80#8], [0x81#8], [0x82#8], [0x83#8], [0x84#8], [0x85#8], [0x86#8], [0x87#8], [0x88#8],
     [0x89#8], [0x8A#8], [0x8B#8], [0x8C#8], [0x8D#8], [0x8E#8], [0x8F#8]].map decode =
      ([.addAB, .addAC, .addAD, .addAE, .addAH, .addAL, .addAIndHl, .addAA, .adcAB, .adcAC, .adcAD,
        .adcAE, .adcAH, .adcAL, .adcAIndHl, .adcAA] : List Instr).map fun i => .ok (i, []) := rfl

theorem test_decode_base_9x :
    [[0x90#8], [0x91#8], [0x92#8], [0x93#8], [0x94#8], [0x95#8], [0x96#8], [0x97#8], [0x98#8],
     [0x99#8], [0x9A#8], [0x9B#8], [0x9C#8], [0x9D#8], [0x9E#8], [0x9F#8]].map decode =
      ([.subB, .subC, .subD, .subE, .subH, .subL, .subIndHl, .subA, .sbcAB, .sbcAC, .sbcAD, .sbcAE,
        .sbcAH, .sbcAL, .sbcAIndHl, .sbcAA] : List Instr).map fun i => .ok (i, []) := rfl

theorem test_decode_base_Ax :
    [[0xA0#8], [0xA1#8], [0xA2#8], [0xA3#8], [0xA4#8], [0xA5#8], [0xA6#8], [0xA7#8], [0xA8#8],
     [0xA9#8], [0xAA#8], [0xAB#8], [0xAC#8], [0xAD#8], [0xAE#8], [0xAF#8]].map decode =
      ([.andB, .andC, .andD, .andE, .andH, .andL, .andIndHl, .andA, .xorB, .xorC, .xorD, .xorE,
        .xorH, .xorL, .xorIndHl, .xorA] : List Instr).map fun i => .ok (i, []) := rfl

theorem test_decode_base_Bx :
    [[0xB0#8], [0xB1#8], [0xB2#8], [0xB3#8], [0xB4#8], [0xB5#8], [0xB6#8], [0xB7#8], [0xB8#8],
     [0xB9#8], [0xBA#8], [0xBB#8], [0xBC#8], [0xBD#8], [0xBE#8], [0xBF#8]].map decode =
      ([.orB, .orC, .orD, .orE, .orH, .orL, .orIndHl, .orA, .cpB, .cpC, .cpD, .cpE, .cpH, .cpL,
        .cpIndHl, .cpA] : List Instr).map fun i => .ok (i, []) := rfl

theorem test_decode_base_Cx :
    [[0xC0#8], [0xC1#8], [0xC2#8, 0x34#8, 0x12#8], [0xC3#8, 0x34#8, 0x12#8],
     [0xC4#8, 0x34#8, 0x12#8], [0xC5#8], [0xC6#8, 0x34#8], [0xC7#8], [0xC8#8], [0xC9#8],
     [0xCA#8, 0x34#8, 0x12#8], [0xCB#8], [0xCC#8, 0x34#8, 0x12#8], [0xCD#8, 0x34#8, 0x12#8],
     [0xCE#8, 0x34#8], [0xCF#8]].map decode =
      ([.retNz, .popBc, .jpNzA16 0x1234#16, .jpA16 0x1234#16, .callNzA16 0x1234#16, .pushBc,
        .addAD8 0x34#8, .rst00, .retZ, .ret, .jpZA16 0x1234#16, .prefixCb, .callZA16 0x1234#16,
        .callA16 0x1234#16, .adcAD8 0x34#8, .rst08] : List Instr).map fun i => .ok (i, []) := rfl

theorem test_decode_base_Dx :
    [[0xD0#8], [0xD1#8], [0xD2#8, 0x34#8, 0x12#8], [0xD3#8], [0xD4#8, 0x34#8, 0x12#8], [0xD5#8],
     [0xD6#8, 0x34#8], [0xD7#8], [0xD8#8], [0xD9#8], [0xDA#8, 0x34#8, 0x12#8], [0xDB#8],
     [0xDC#8, 0x34#8, 0x12#8], [0xDD#8], [0xDE#8, 0x34#8], [0xDF#8]].map decode =
      ([.retNc, .popDe, .jpNcA16 0x1234#16, .illegalD3, .callNcA16 0x1234#16, .pushDe,
        .subD8 0x34#8, .rst10, .retC, .reti, .jpCA16 0x1234#16, .illegalDB, .callCA16 0x1234#16,
        .illegalDD, .sbcAD8 0x34#8, .rst18] : List Instr).map fun i => .ok (i, []) := rfl

theorem test_decode_base_Ex :
    [[0xE0#8, 0x34#8], [0xE1#8], [0xE2#8], [0xE3#8], [0xE4#8], [0xE5#8], [0xE6#8, 0x34#8],
     [0xE7#8], [0xE8#8, 0x34#8], [0xE9#8], [0xEA#8, 0x34#8, 0x12#8], [0xEB#8], [0xEC#8], [0xED#8],
     [0xEE#8, 0x34#8], [0xEF#8]].map decode =
      ([.ldhIndA8A 0x34#8, .popHl, .ldIndCA, .illegalE3, .illegalE4, .pushHl, .andD8 0x34#8,
        .rst20, .addSpE8 0x34#8, .jpHl, .ldIndA16A 0x1234#16, .illegalEB, .illegalEC, .illegalED,
        .xorD8 0x34#8, .rst28] : List Instr).map fun i => .ok (i, []) := rfl

theorem test_decode_base_Fx :
    [[0xF0#8, 0x34#8], [0xF1#8], [0xF2#8], [0xF3#8], [0xF4#8], [0xF5#8], [0xF6#8, 0x34#8],
     [0xF7#8], [0xF8#8, 0x34#8], [0xF9#8], [0xFA#8, 0x34#8, 0x12#8], [0xFB#8], [0xFC#8], [0xFD#8],
     [0xFE#8, 0x34#8], [0xFF#8]].map decode =
      ([.ldhAIndA8 0x34#8, .popAf, .ldAIndC, .di, .illegalF4, .pushAf, .orD8 0x34#8, .rst30,
        .ldHlSpE8 0x34#8, .ldSpHl, .ldAIndA16 0x1234#16, .ei, .illegalFC, .illegalFD, .cpD8 0x34#8,
        .rst38] : List Instr).map fun i => .ok (i, []) := rfl

theorem test_decode_cb_0x :
    [[0xCB#8, 0x00#8], [0xCB#8, 0x01#8], [0xCB#8, 0x02#8], [0xCB#8, 0x03#8], [0xCB#8, 0x04#8],
     [0xCB#8, 0x05#8], [0xCB#8, 0x06#8], [0xCB#8, 0x07#8], [0xCB#8, 0x08#8], [0xCB#8, 0x09#8],
     [0xCB#8, 0x0A#8], [0xCB#8, 0x0B#8], [0xCB#8, 0x0C#8], [0xCB#8, 0x0D#8], [0xCB#8, 0x0E#8],
     [0xCB#8, 0x0F#8]].map decode =
      ([.rlcB, .rlcC, .rlcD, .rlcE, .rlcH, .rlcL, .rlcIndHl, .rlcA, .rrcB, .rrcC, .rrcD, .rrcE,
        .rrcH, .rrcL, .rrcIndHl, .rrcA] : List Instr).map fun i => .ok (i, []) := rfl

theorem test_decode_cb_1x :
    [[0xCB#8, 0x10#8], [0xCB#8, 0x11#8], [0xCB#8, 0x12#8], [0xCB#8, 0x13#8], [0xCB#8, 0x14#8],
     [0xCB#8, 0x15#8], [0xCB#8, 0x16#8], [0xCB#8, 0x17#8], [0xCB#8, 0x18#8], [0xCB#8, 0x19#8],
     [0xCB#8, 0x1A#8], [0xCB#8, 0x1B#8], [0xCB#8, 0x1C#8], [0xCB#8, 0x1D#8], [0xCB#8, 0x1E#8],
     [0xCB#8, 0x1F#8]].map decode =
      ([.rlB, .rlC, .rlD, .rlE, .rlH, .rlL, .rlIndHl, .rlA, .rrB, .rrC, .rrD, .rrE, .rrH, .rrL,
        .rrIndHl, .rrA] : List Instr).map fun i => .ok (i, []) := rfl

theorem test_decode_cb_2x :
    [[0xCB#8, 0x20#8], [0xCB#8, 0x21#8], [0xCB#8, 0x22#8], [0xCB#8, 0x23#8], [0xCB#8, 0x24#8],
     [0xCB#8, 0x25#8], [0xCB#8, 0x26#8], [0xCB#8, 0x27#8], [0xCB#8, 0x28#8], [0xCB#8, 0x29#8],
     [0xCB#8, 0x2A#8], [0xCB#8, 0x2B#8], [0xCB#8, 0x2C#8], [0xCB#8, 0x2D#8], [0xCB#8, 0x2E#8],
     [0xCB#8, 0x2F#8]].map decode =
      ([.slaB, .slaC, .slaD, .slaE, .slaH, .slaL, .slaIndHl, .slaA, .sraB, .sraC, .sraD, .sraE,
        .sraH, .sraL, .sraIndHl, .sraA] : List Instr).map fun i => .ok (i, []) := rfl

theorem test_decode_cb_3x :
    [[0xCB#8, 0x30#8], [0xCB#8, 0x31#8], [0xCB#8, 0x32#8], [0xCB#8, 0x33#8], [0xCB#8, 0x34#8],
     [0xCB#8, 0x35#8], [0xCB#8, 0x36#8], [0xCB#8, 0x37#8], [0xCB#8, 0x38#8], [0xCB#8, 0x39#8],
     [0xCB#8, 0x3A#8], [0xCB#8, 0x3B#8], [0xCB#8, 0x3C#8], [0xCB#8, 0x3D#8], [0xCB#8, 0x3E#8],
     [0xCB#8, 0x3F#8]].map decode =
      ([.swapB, .swapC, .swapD, .swapE, .swapH, .swapL, .swapIndHl, .swapA, .srlB, .srlC, .srlD,
        .srlE, .srlH, .srlL, .srlIndHl, .srlA] : List Instr).map fun i => .ok (i, []) := rfl

theorem test_decode_cb_4x :
    [[0xCB#8, 0x40#8], [0xCB#8, 0x41#8], [0xCB#8, 0x42#8], [0xCB#8, 0x43#8], [0xCB#8, 0x44#8],
     [0xCB#8, 0x45#8], [0xCB#8, 0x46#8], [0xCB#8, 0x47#8], [0xCB#8, 0x48#8], [0xCB#8, 0x49#8],
     [0xCB#8, 0x4A#8], [0xCB#8, 0x4B#8], [0xCB#8, 0x4C#8], [0xCB#8, 0x4D#8], [0xCB#8, 0x4E#8],
     [0xCB#8, 0x4F#8]].map decode =
      ([.bit0B, .bit0C, .bit0D, .bit0E, .bit0H, .bit0L, .bit0IndHl, .bit0A, .bit1B, .bit1C, .bit1D,
        .bit1E, .bit1H, .bit1L, .bit1IndHl, .bit1A] : List Instr).map fun i => .ok (i, []) := rfl

theorem test_decode_cb_5x :
    [[0xCB#8, 0x50#8], [0xCB#8, 0x51#8], [0xCB#8, 0x52#8], [0xCB#8, 0x53#8], [0xCB#8, 0x54#8],
     [0xCB#8, 0x55#8], [0xCB#8, 0x56#8], [0xCB#8, 0x57#8], [0xCB#8, 0x58#8], [0xCB#8, 0x59#8],
     [0xCB#8, 0x5A#8], [0xCB#8, 0x5B#8], [0xCB#8, 0x5C#8], [0xCB#8, 0x5D#8], [0xCB#8, 0x5E#8],
     [0xCB#8, 0x5F#8]].map decode =
      ([.bit2B, .bit2C, .bit2D, .bit2E, .bit2H, .bit2L, .bit2IndHl, .bit2A, .bit3B, .bit3C, .bit3D,
        .bit3E, .bit3H, .bit3L, .bit3IndHl, .bit3A] : List Instr).map fun i => .ok (i, []) := rfl

theorem test_decode_cb_6x :
    [[0xCB#8, 0x60#8], [0xCB#8, 0x61#8], [0xCB#8, 0x62#8], [0xCB#8, 0x63#8], [0xCB#8, 0x64#8],
     [0xCB#8, 0x65#8], [0xCB#8, 0x66#8], [0xCB#8, 0x67#8], [0xCB#8, 0x68#8], [0xCB#8, 0x69#8],
     [0xCB#8, 0x6A#8], [0xCB#8, 0x6B#8], [0xCB#8, 0x6C#8], [0xCB#8, 0x6D#8], [0xCB#8, 0x6E#8],
     [0xCB#8, 0x6F#8]].map decode =
      ([.bit4B, .bit4C, .bit4D, .bit4E, .bit4H, .bit4L, .bit4IndHl, .bit4A, .bit5B, .bit5C, .bit5D,
        .bit5E, .bit5H, .bit5L, .bit5IndHl, .bit5A] : List Instr).map fun i => .ok (i, []) := rfl

theorem test_decode_cb_7x :
    [[0xCB#8, 0x70#8], [0xCB#8, 0x71#8], [0xCB#8, 0x72#8], [0xCB#8, 0x73#8], [0xCB#8, 0x74#8],
     [0xCB#8, 0x75#8], [0xCB#8, 0x76#8], [0xCB#8, 0x77#8], [0xCB#8, 0x78#8], [0xCB#8, 0x79#8],
     [0xCB#8, 0x7A#8], [0xCB#8, 0x7B#8], [0xCB#8, 0x7C#8], [0xCB#8, 0x7D#8], [0xCB#8, 0x7E#8],
     [0xCB#8, 0x7F#8]].map decode =
      ([.bit6B, .bit6C, .bit6D, .bit6E, .bit6H, .bit6L, .bit6IndHl, .bit6A, .bit7B, .bit7C, .bit7D,
        .bit7E, .bit7H, .bit7L, .bit7IndHl, .bit7A] : List Instr).map fun i => .ok (i, []) := rfl

theorem test_decode_cb_8x :
    [[0xCB#8, 0x80#8], [0xCB#8, 0x81#8], [0xCB#8, 0x82#8], [0xCB#8, 0x83#8], [0xCB#8, 0x84#8],
     [0xCB#8, 0x85#8], [0xCB#8, 0x86#8], [0xCB#8, 0x87#8], [0xCB#8, 0x88#8], [0xCB#8, 0x89#8],
     [0xCB#8, 0x8A#8], [0xCB#8, 0x8B#8], [0xCB#8, 0x8C#8], [0xCB#8, 0x8D#8], [0xCB#8, 0x8E#8],
     [0xCB#8, 0x8F#8]].map decode =
      ([.res0B, .res0C, .res0D, .res0E, .res0H, .res0L, .res0IndHl, .res0A, .res1B, .res1C, .res1D,
        .res1E, .res1H, .res1L, .res1IndHl, .res1A] : List Instr).map fun i => .ok (i, []) := rfl

theorem test_decode_cb_9x :
    [[0xCB#8, 0x90#8], [0xCB#8, 0x91#8], [0xCB#8, 0x92#8], [0xCB#8, 0x93#8], [0xCB#8, 0x94#8],
     [0xCB#8, 0x95#8], [0xCB#8, 0x96#8], [0xCB#8, 0x97#8], [0xCB#8, 0x98#8], [0xCB#8, 0x99#8],
     [0xCB#8, 0x9A#8], [0xCB#8, 0x9B#8], [0xCB#8, 0x9C#8], [0xCB#8, 0x9D#8], [0xCB#8, 0x9E#8],
     [0xCB#8, 0x9F#8]].map decode =
      ([.res2B, .res2C, .res2D, .res2E, .res2H, .res2L, .res2IndHl, .res2A, .res3B, .res3C, .res3D,
        .res3E, .res3H, .res3L, .res3IndHl, .res3A] : List Instr).map fun i => .ok (i, []) := rfl

theorem test_decode_cb_Ax :
    [[0xCB#8, 0xA0#8], [0xCB#8, 0xA1#8], [0xCB#8, 0xA2#8], [0xCB#8, 0xA3#8], [0xCB#8, 0xA4#8],
     [0xCB#8, 0xA5#8], [0xCB#8, 0xA6#8], [0xCB#8, 0xA7#8], [0xCB#8, 0xA8#8], [0xCB#8, 0xA9#8],
     [0xCB#8, 0xAA#8], [0xCB#8, 0xAB#8], [0xCB#8, 0xAC#8], [0xCB#8, 0xAD#8], [0xCB#8, 0xAE#8],
     [0xCB#8, 0xAF#8]].map decode =
      ([.res4B, .res4C, .res4D, .res4E, .res4H, .res4L, .res4IndHl, .res4A, .res5B, .res5C, .res5D,
        .res5E, .res5H, .res5L, .res5IndHl, .res5A] : List Instr).map fun i => .ok (i, []) := rfl

theorem test_decode_cb_Bx :
    [[0xCB#8, 0xB0#8], [0xCB#8, 0xB1#8], [0xCB#8, 0xB2#8], [0xCB#8, 0xB3#8], [0xCB#8, 0xB4#8],
     [0xCB#8, 0xB5#8], [0xCB#8, 0xB6#8], [0xCB#8, 0xB7#8], [0xCB#8, 0xB8#8], [0xCB#8, 0xB9#8],
     [0xCB#8, 0xBA#8], [0xCB#8, 0xBB#8], [0xCB#8, 0xBC#8], [0xCB#8, 0xBD#8], [0xCB#8, 0xBE#8],
     [0xCB#8, 0xBF#8]].map decode =
      ([.res6B, .res6C, .res6D, .res6E, .res6H, .res6L, .res6IndHl, .res6A, .res7B, .res7C, .res7D,
        .res7E, .res7H, .res7L, .res7IndHl, .res7A] : List Instr).map fun i => .ok (i, []) := rfl

theorem test_decode_cb_Cx :
    [[0xCB#8, 0xC0#8], [0xCB#8, 0xC1#8], [0xCB#8, 0xC2#8], [0xCB#8, 0xC3#8], [0xCB#8, 0xC4#8],
     [0xCB#8, 0xC5#8], [0xCB#8, 0xC6#8], [0xCB#8, 0xC7#8], [0xCB#8, 0xC8#8], [0xCB#8, 0xC9#8],
     [0xCB#8, 0xCA#8], [0xCB#8, 0xCB#8], [0xCB#8, 0xCC#8], [0xCB#8, 0xCD#8], [0xCB#8, 0xCE#8],
     [0xCB#8, 0xCF#8]].map decode =
      ([.set0B, .set0C, .set0D, .set0E, .set0H, .set0L, .set0IndHl, .set0A, .set1B, .set1C, .set1D,
        .set1E, .set1H, .set1L, .set1IndHl, .set1A] : List Instr).map fun i => .ok (i, []) := rfl

theorem test_decode_cb_Dx :
    [[0xCB#8, 0xD0#8], [0xCB#8, 0xD1#8], [0xCB#8, 0xD2#8], [0xCB#8, 0xD3#8], [0xCB#8, 0xD4#8],
     [0xCB#8, 0xD5#8], [0xCB#8, 0xD6#8], [0xCB#8, 0xD7#8], [0xCB#8, 0xD8#8], [0xCB#8, 0xD9#8],
     [0xCB#8, 0xDA#8], [0xCB#8, 0xDB#8], [0xCB#8, 0xDC#8], [0xCB#8, 0xDD#8], [0xCB#8, 0xDE#8],
     [0xCB#8, 0xDF#8]].map decode =
      ([.set2B, .set2C, .set2D, .set2E, .set2H, .set2L, .set2IndHl, .set2A, .set3B, .set3C, .set3D,
        .set3E, .set3H, .set3L, .set3IndHl, .set3A] : List Instr).map fun i => .ok (i, []) := rfl

theorem test_decode_cb_Ex :
    [[0xCB#8, 0xE0#8], [0xCB#8, 0xE1#8], [0xCB#8, 0xE2#8], [0xCB#8, 0xE3#8], [0xCB#8, 0xE4#8],
     [0xCB#8, 0xE5#8], [0xCB#8, 0xE6#8], [0xCB#8, 0xE7#8], [0xCB#8, 0xE8#8], [0xCB#8, 0xE9#8],
     [0xCB#8, 0xEA#8], [0xCB#8, 0xEB#8], [0xCB#8, 0xEC#8], [0xCB#8, 0xED#8], [0xCB#8, 0xEE#8],
     [0xCB#8, 0xEF#8]].map decode =
      ([.set4B, .set4C, .set4D, .set4E, .set4H, .set4L, .set4IndHl, .set4A, .set5B, .set5C, .set5D,
        .set5E, .set5H, .set5L, .set5IndHl, .set5A] : List Instr).map fun i => .ok (i, []) := rfl

theorem test_decode_cb_Fx :
    [[0xCB#8, 0xF0#8], [0xCB#8, 0xF1#8], [0xCB#8, 0xF2#8], [0xCB#8, 0xF3#8], [0xCB#8, 0xF4#8],
     [0xCB#8, 0xF5#8], [0xCB#8, 0xF6#8], [0xCB#8, 0xF7#8], [0xCB#8, 0xF8#8], [0xCB#8, 0xF9#8],
     [0xCB#8, 0xFA#8], [0xCB#8, 0xFB#8], [0xCB#8, 0xFC#8], [0xCB#8, 0xFD#8], [0xCB#8, 0xFE#8],
     [0xCB#8, 0xFF#8]].map decode =
      ([.set6B, .set6C, .set6D, .set6E, .set6H, .set6L, .set6IndHl, .set6A, .set7B, .set7C, .set7D,
        .set7E, .set7H, .set7L, .set7IndHl, .set7A] : List Instr).map fun i => .ok (i, []) := rfl

theorem test_decode_table_word_base : decodeTableWord 8 0x41 = some .ldBC := by decide

theorem test_decode_table_word_operand : decodeTableWord 8 0x3E = some (.ldAD8 0x00#8) := by decide

theorem test_decode_rejects_empty : decode [] = .error .empty := rfl

theorem test_decode_rejects_cut_short : decode [0xC3#8, 0x34#8] = .error (.truncated 3 2) := rfl

/-! ### Vectors of 95_test_vectors.md section 2 (their numbers are in the names) -/

theorem test_L1_ld_b_c : see (ran [0x41#8] (withBc 0x1234#16 s0)) (fun t => (t.regs.b, t.cycles)) = some (0x34#8, 4) := by decide

theorem test_L2_ld_h_ind_hl : see (ran [0x66#8] (placeByte 0xC000#16 0x5A#8 (withHl 0xC000#16 s0))) (fun t => (t.hl, t.cycles)) = some (0x5A00#16, 8) := by decide

theorem test_L3_ld_ind_hl_h : see (ran [0x74#8] (withHl 0xC010#16 s0)) (fun t => (byteAt 0xC010#16 t, t.cycles)) = some (some 0xC0#8, 8) := by decide

theorem test_L4_ld_c_d8 : see (ran [0x0E#8, 0x7F#8] (s0)) (fun t => (t.regs.c, t.pc, t.cycles)) = some (0x7F#8, 0x0102#16, 8) := by decide

theorem test_L5_ld_ind_hl_d8_clears_div : see (ran [0x36#8, 0x99#8] (withHl 0xFF04#16 s0)) (fun t => (t.timer.div, t.timer.divAcc, t.cycles)) = some (0x00#8, 0, 12) := by decide

theorem test_L6_ld_a_hl_inc_wraps : see (ran [0x2A#8] (withHl 0xFFFF#16 { s0 with intEnable := 0x05#5 })) (fun t => (t.hl, t.cycles)) = some (0x0000#16, 8) := by decide

theorem test_L7_ld_a_hl_dec_wraps : see (ran [0x3A#8] (placeByte 0x0000#16 0x31#8 (withHl 0x0000#16 s0))) (fun t => (t.regs.a, t.hl)) = some (0x31#8, 0xFFFF#16) := by decide

theorem test_L8_ld_hl_inc_a : see (ran [0x22#8] (withHl 0xC0FF#16 (withA 0xAA#8 0x00#8 s0))) (fun t => (byteAt 0xC0FF#16 t, t.hl)) = some (some 0xAA#8, 0xC100#16) := by decide

theorem test_L9_ld_hl_dec_a : see (ran [0x32#8] (withHl 0xC000#16 s0)) (fun t => (byteAt 0xC000#16 t, t.hl)) = some (some 0x01#8, 0xBFFF#16) := by decide

theorem test_L10_ldh_a8_a_to_ie : see (ran [0xE0#8, 0xFF#8] (withA 0xFF#8 0x00#8 s0)) (fun t => (t.intEnable, t.cycles)) = some (0x1F#5, 12) := by decide

theorem test_L12_ldh_a_a8_stub : see (ran [0xF0#8, 0x10#8] (s0)) (fun t => (t.regs.a, t.cycles)) = some (0x00#8, 12) := by decide

theorem test_L13_ld_ind_c_a_to_if : see (ran [0xE2#8] (withReg .c 0x0F#8 (withA 0xE4#8 0x00#8 s0))) (fun t => (t.intFlag, t.cycles)) = some (0x04#5, 8) := by decide

theorem test_L14_ld_a_ind_c : see (ran [0xF2#8] (placeByte 0xFF80#16 0x3D#8 (withReg .c 0x80#8 s0))) (fun t => (t.regs.a, t.cycles)) = some (0x3D#8, 8) := by decide

theorem test_L15_ld_a16_a_echo : see (ran [0xEA#8, 0x05#8, 0xE0#8] (withA 0x77#8 0x00#8 s0)) (fun t => (byteAt 0xC005#16 t, t.cycles)) = some (some 0x77#8, 16) := by decide

theorem test_L16_ld_a_a16_echo : see (ran [0xFA#8, 0xFF#8, 0xFD#8] (placeByte 0xDDFF#16 0x19#8 s0)) (fun t => (t.regs.a, t.cycles)) = some (0x19#8, 16) := by decide

theorem test_L17_ld_de_d16 : see (ran [0x11#8, 0x34#8, 0x12#8] (s0)) (fun t => (t.regs.d, t.regs.e, t.cycles)) = some (0x12#8, 0x34#8, 12) := by decide

theorem test_L18_ld_a16_sp : see (ran [0x08#8, 0x00#8, 0xC0#8] (withSp 0xFFF8#16 s0)) (fun t => (byteAt 0xC000#16 t, byteAt 0xC001#16 t, t.cycles)) = some (some 0xF8#8, some 0xFF#8, 20) := by decide

theorem test_L19_ld_a16_sp_wraps : see (ran [0x08#8, 0xFF#8, 0xFF#8] (withSp 0x1234#16 s0)) (fun t => (t.intEnable, decide (t.cart.rom = (placeBytes 0x0100#16 [0x08#8, 0xFF#8, 0xFF#8] s0).cart.rom))) = some (0x14#5, true) := by decide

theorem test_L20_ld_sp_hl : see (ran [0xF9#8] (withHl 0xD000#16 s0)) (fun t => (t.sp, t.cycles)) = some (0xD000#16, 8) := by decide

theorem test_L21_push_bc : see (ran [0xC5#8] (withBc 0x1234#16 s0)) (fun t => (byteAt 0xFFFD#16 t, byteAt 0xFFFC#16 t, t.sp, t.cycles)) = some (some 0x12#8, some 0x34#8, 0xFFFC#16, 16) := by decide

theorem test_L22_push_de_through_ie : see (ran [0xD5#8] (withSp 0x0000#16 (withDe 0xABCD#16 s0))) (fun t => (t.intEnable, byteAt 0xFFFE#16 t, t.sp)) = some (0x0B#5, some 0xCD#8, 0xFFFE#16) := by decide

theorem test_L23_push_af : see (ran [0xF5#8] (s0)) (fun t => (byteAt 0xFFFD#16 t, byteAt 0xFFFC#16 t)) = some (some 0x01#8, some 0xB0#8) := by decide

theorem test_L24_pop_de : see (ran [0xD1#8] (withSp 0xFFFC#16 (placeBytes 0xFFFC#16 [0x34#8, 0x12#8] s0))) (fun t => (t.de, t.sp, t.cycles)) = some (0x1234#16, 0xFFFE#16, 12) := by decide

theorem test_L25_pop_af_low_nibble : see (ran [0xF1#8] (withSp 0xFFFC#16 (placeBytes 0xFFFC#16 [0xFF#8, 0x12#8] s0))) (fun t => (t.regs.a, t.f.toByte)) = some (0x12#8, 0xF0#8) := by decide

theorem test_L26_push_second_byte_faults : faulted (ran [0xC5#8] (withSp 0xFF01#16 s0)) = some (some (.unimplementedAddress 0xFEFF#16 .write 0x0101#16)) := by decide

theorem test_A1_add_half_carry : see (ran [0x80#8] (withAb 0x0F#8 0x01#8 s0)) (fun t => (t.regs.a, t.f.toByte)) = some (0x10#8, 0x20#8) := by decide

theorem test_A2_add_wraps : see (ran [0x80#8] (withAb 0xFF#8 0x01#8 s0)) (fun t => (t.regs.a, t.f.toByte)) = some (0x00#8, 0xB0#8) := by decide

theorem test_A3_add_a_a : see (ran [0x87#8] (withA 0x80#8 0x00#8 s0)) (fun t => (t.regs.a, t.f.toByte)) = some (0x00#8, 0x90#8) := by decide

theorem test_A5_adc_wraps : see (ran [0xCE#8, 0x00#8] (withA 0xFF#8 0x10#8 s0)) (fun t => (t.regs.a, t.f.toByte)) = some (0x00#8, 0xB0#8) := by decide

theorem test_A6_adc_half_carry : see (ran [0xCE#8, 0x0F#8] (withA 0xE1#8 0x10#8 s0)) (fun t => (t.regs.a, t.f.toByte)) = some (0xF1#8, 0x20#8) := by decide

theorem test_A7_sub_borrows : see (ran [0x90#8] (withAb 0x00#8 0x01#8 s0)) (fun t => (t.regs.a, t.f.toByte)) = some (0xFF#8, 0x70#8) := by decide

theorem test_A9_sub_a_a : see (ran [0x97#8] (withA 0x3E#8 0x00#8 s0)) (fun t => (t.regs.a, t.f.toByte)) = some (0x00#8, 0xC0#8) := by decide

theorem test_A10_sbc_borrows : see (ran [0xDE#8, 0xFF#8] (withA 0x00#8 0x10#8 s0)) (fun t => (t.regs.a, t.f.toByte)) = some (0x00#8, 0xF0#8) := by decide

theorem test_A11_sbc_h : see (ran [0x9C#8] (withReg .h 0x2A#8 (withA 0x3B#8 0x10#8 s0))) (fun t => (t.regs.a, t.f.toByte)) = some (0x10#8, 0x40#8) := by decide

theorem test_A13_and_l : see (ran [0xA5#8] (withReg .l 0x3F#8 (withA 0x5A#8 0x00#8 s0))) (fun t => (t.regs.a, t.f.toByte)) = some (0x1A#8, 0x20#8) := by decide

theorem test_A14_and_zero : see (ran [0xA7#8] (withA 0x00#8 0x10#8 s0)) (fun t => (t.regs.a, t.f.toByte)) = some (0x00#8, 0xA0#8) := by decide

theorem test_A15_xor_d8 : see (ran [0xEE#8, 0x0F#8] (withA 0xFF#8 0xF0#8 s0)) (fun t => (t.regs.a, t.f.toByte)) = some (0xF0#8, 0x00#8) := by decide

theorem test_A17_or_ind_hl : see (ran [0xB6#8] (placeByte 0xC000#16 0x0F#8 (withHl 0xC000#16 (withA 0x5A#8 0x70#8 s0)))) (fun t => (t.regs.a, t.f.toByte)) = some (0x5F#8, 0x00#8) := by decide

theorem test_A19_cp_keeps_a : see (ran [0xFE#8, 0x01#8] (withA 0x00#8 0x00#8 s0)) (fun t => (t.regs.a, t.f.toByte)) = some (0x00#8, 0x70#8) := by decide

theorem test_A20_cp_half_borrow : see (ran [0xB8#8] (withAb 0x3C#8 0x2F#8 s0)) (fun t => (t.regs.a, t.f.toByte)) = some (0x3C#8, 0x60#8) := by decide

theorem test_A22_inc_c_keeps_carry : see (ran [0x0C#8] (withReg .c 0xFF#8 (withF 0x00#8 s0))) (fun t => (t.regs.c, t.f.toByte)) = some (0x00#8, 0xA0#8) := by decide

theorem test_A23_inc_ind_hl : see (ran [0x34#8] (placeByte 0xC000#16 0x0F#8 (withHl 0xC000#16 (withF 0x10#8 s0)))) (fun t => (byteAt 0xC000#16 t, t.f.toByte, t.cycles)) = some (some 0x10#8, 0x30#8, 12) := by decide

theorem test_A24_dec_e_wraps : see (ran [0x1D#8] (withReg .e 0x00#8 (withF 0x10#8 s0))) (fun t => (t.regs.e, t.f.toByte)) = some (0xFF#8, 0x70#8) := by decide

theorem test_A25_dec_ind_hl : see (ran [0x35#8] (placeByte 0xC000#16 0x01#8 (withHl 0xC000#16 (withF 0x10#8 s0)))) (fun t => (byteAt 0xC000#16 t, t.f.toByte)) = some (some 0x00#8, 0xD0#8) := by decide

theorem test_A26_inc_div_clears_it : see (ran [0x34#8] (withHl 0xFF04#16 { s0 with timer := { s0.timer with div := 0x20#8 } })) (fun t => (t.timer.div, t.f.z, t.f.h)) = some (0x00#8, false, false) := by decide

theorem test_A27_daa_after_add : see (ran [0x27#8] (withA 0x7D#8 0x00#8 s0)) (fun t => (t.regs.a, t.f.toByte)) = some (0x83#8, 0x00#8) := by decide

theorem test_A28_daa_after_sub : see (ran [0x27#8] (withA 0x2D#8 0x60#8 s0)) (fun t => (t.regs.a, t.f.toByte)) = some (0x27#8, 0x40#8) := by decide

theorem test_A32_cpl : see (ran [0x2F#8] (withA 0x35#8 0x80#8 s0)) (fun t => (t.regs.a, t.f.toByte)) = some (0xCA#8, 0xE0#8) := by decide

theorem test_A33_scf : see (ran [0x37#8] (withA 0x00#8 0x80#8 s0)) (fun t => (t.regs.a, t.f.toByte)) = some (0x00#8, 0x90#8) := by decide

theorem test_A34_ccf_clears : see (ran [0x3F#8] (withA 0x00#8 0x70#8 s0)) (fun t => (t.regs.a, t.f.toByte)) = some (0x00#8, 0x00#8) := by decide

theorem test_A35_ccf_sets : see (ran [0x3F#8] (withA 0x00#8 0xE0#8 s0)) (fun t => (t.regs.a, t.f.toByte)) = some (0x00#8, 0x90#8) := by decide

theorem test_W1_inc_sp_wraps : see (ran [0x33#8] (withSp 0xFFFF#16 s0)) (fun t => (t.sp, t.f.toByte, t.cycles)) = some (0x0000#16, 0xB0#8, 8) := by decide

theorem test_W2_dec_bc_wraps : see (ran [0x0B#8] (withBc 0x0000#16 s0)) (fun t => (t.bc, t.f.toByte)) = some (0xFFFF#16, 0xB0#8) := by decide

theorem test_W3_add_hl_bc_keeps_z : see (ran [0x09#8] (withHl 0xFFFF#16 (withBc 0x0001#16 (withF 0x80#8 s0)))) (fun t => (t.hl, t.f.toByte)) = some (0x0000#16, 0xB0#8) := by decide

theorem test_W4_add_hl_de : see (ran [0x19#8] (withHl 0x0FFF#16 (withDe 0x0001#16 (withF 0x00#8 s0)))) (fun t => (t.hl, t.f.toByte)) = some (0x1000#16, 0x20#8) := by decide

theorem test_W5_add_hl_hl : see (ran [0x29#8] (withHl 0x8000#16 (withF 0x40#8 s0))) (fun t => (t.hl, t.f.toByte)) = some (0x0000#16, 0x10#8) := by decide

theorem test_W6_add_sp_wraps : see (ran [0xE8#8, 0x01#8] (withSp 0xFFFF#16 s0)) (fun t => (t.sp, t.f.toByte, t.cycles)) = some (0x0000#16, 0x30#8, 16) := by decide

theorem test_W7_add_sp_negative : see (ran [0xE8#8, 0xFF#8] (withSp 0x0000#16 s0)) (fun t => (t.sp, t.f.toByte)) = some (0xFFFF#16, 0x00#8) := by decide

theorem test_W9_ld_hl_sp_e8 : see (ran [0xF8#8, 0xFF#8] (withSp 0x0001#16 s0)) (fun t => (t.hl, t.sp, t.f.toByte, t.cycles)) = some (0x0000#16, 0x0001#16, 0x30#8, 12) := by decide

theorem test_B1_rlca_forces_z_0 : see (ran [0x07#8] (withA 0x00#8 0x80#8 s0)) (fun t => (t.regs.a, t.f.toByte)) = some (0x00#8, 0x00#8) := by decide

theorem test_B2_rlca : see (ran [0x07#8] (withA 0x85#8 0x00#8 s0)) (fun t => (t.regs.a, t.f.toByte)) = some (0x0B#8, 0x10#8) := by decide

theorem test_B3_rrca : see (ran [0x0F#8] (withA 0x3B#8 0x00#8 s0)) (fun t => (t.regs.a, t.f.toByte)) = some (0x9D#8, 0x10#8) := by decide

theorem test_B4_rla : see (ran [0x17#8] (withA 0x80#8 0x00#8 s0)) (fun t => (t.regs.a, t.f.toByte)) = some (0x00#8, 0x10#8) := by decide

theorem test_B5_rra : see (ran [0x1F#8] (withA 0x01#8 0x00#8 s0)) (fun t => (t.regs.a, t.f.toByte)) = some (0x00#8, 0x10#8) := by decide

theorem test_B6_rlc_b : see (ran [0xCB#8, 0x00#8] (withReg .b 0x00#8 s0)) (fun t => (t.regs.b, t.f.toByte, t.cycles)) = some (0x00#8, 0x80#8, 8) := by decide

theorem test_B7_rrc_c : see (ran [0xCB#8, 0x09#8] (withReg .c 0x01#8 s0)) (fun t => (t.regs.c, t.f.toByte)) = some (0x80#8, 0x10#8) := by decide

theorem test_B8_rl_l : see (ran [0xCB#8, 0x15#8] (withReg .l 0x80#8 (withF 0x00#8 s0))) (fun t => (t.regs.l, t.f.toByte)) = some (0x00#8, 0x90#8) := by decide

theorem test_B9_rr_a : see (ran [0xCB#8, 0x1F#8] (withA 0x01#8 0x00#8 s0)) (fun t => (t.regs.a, t.f.toByte)) = some (0x00#8, 0x90#8) := by decide

theorem test_B10_sla_d : see (ran [0xCB#8, 0x22#8] (withReg .d 0x80#8 s0)) (fun t => (t.regs.d, t.f.toByte)) = some (0x00#8, 0x90#8) := by decide

theorem test_B12_sra_a : see (ran [0xCB#8, 0x2F#8] (withA 0xFF#8 0x00#8 s0)) (fun t => (t.regs.a, t.f.toByte)) = some (0xFF#8, 0x10#8) := by decide

theorem test_B14_swap_a : see (ran [0xCB#8, 0x37#8] (withA 0xF0#8 0x10#8 s0)) (fun t => (t.regs.a, t.f.toByte)) = some (0x0F#8, 0x00#8) := by decide

theorem test_B15_srl_a : see (ran [0xCB#8, 0x3F#8] (withA 0xFF#8 0x00#8 s0)) (fun t => (t.regs.a, t.f.toByte)) = some (0x7F#8, 0x10#8) := by decide

theorem test_B16_bit_7_h : see (ran [0xCB#8, 0x7C#8] (withReg .h 0x80#8 (withF 0x10#8 s0))) (fun t => (t.regs.h, t.f.toByte)) = some (0x80#8, 0x30#8) := by decide

theorem test_B17_bit_4_l : see (ran [0xCB#8, 0x65#8] (withReg .l 0xEF#8 (withF 0x00#8 s0))) (fun t => (t.regs.l, t.f.toByte)) = some (0xEF#8, 0xA0#8) := by decide

theorem test_B18_res_7_a : see (ran [0xCB#8, 0xBF#8] (withA 0x80#8 0xB0#8 s0)) (fun t => (t.regs.a, t.f.toByte)) = some (0x00#8, 0xB0#8) := by decide

theorem test_B19_set_3_ind_hl : see (ran [0xCB#8, 0xDE#8] (placeByte 0xC000#16 0x00#8 (withHl 0xC000#16 s0))) (fun t => (byteAt 0xC000#16 t, t.f.toByte, t.cycles)) = some (some 0x08#8, 0xB0#8, 16) := by decide

theorem test_B20_rlc_ind_hl : see (ran [0xCB#8, 0x06#8] (placeByte 0xC000#16 0x81#8 (withHl 0xC000#16 s0))) (fun t => (byteAt 0xC000#16 t, t.f.toByte, t.cycles)) = some (some 0x03#8, 0x10#8, 16) := by decide

theorem test_B21_bit_0_ind_hl : see (ran [0xCB#8, 0x46#8] (placeByte 0xC000#16 0x01#8 (withHl 0xC000#16 s0))) (fun t => (t.f.z, t.f.n, t.f.h, t.cycles)) = some (false, false, true, 12) := by decide

theorem test_J1_jp : see (ran [0xC3#8, 0x50#8, 0x01#8] (s0)) (fun t => (t.pc, t.cycles)) = some (0x0150#16, 16) := by decide

theorem test_J2_jp_z_taken : see (ran [0xCA#8, 0x00#8, 0x30#8] (withF 0x80#8 (withPc 0x0200#16 s0))) (fun t => (t.pc, t.cycles)) = some (0x3000#16, 16) := by decide

theorem test_J3_jp_z_not_taken : see (ran [0xCA#8, 0x00#8, 0x30#8] (withF 0x00#8 (withPc 0x0200#16 s0))) (fun t => (t.pc, t.cycles)) = some (0x0203#16, 12) := by decide

theorem test_J4_jp_hl : see (ran [0xE9#8] (withHl 0xC000#16 s0)) (fun t => (t.pc, t.cycles)) = some (0xC000#16, 4) := by decide

theorem test_J6_jr_back : see (ran [0x18#8, 0xFB#8] (withPc 0x0150#16 s0)) (fun t => (t.pc, t.cycles)) = some (0x014D#16, 12) := by decide

theorem test_J7_jr_wraps : see (ran [0x18#8, 0x7F#8] (withPc 0xFFF0#16 s0)) (fun t => t.pc) = some 0x0071#16 := by decide

theorem test_J8_jr_nz_not_taken : see (ran [0x20#8, 0xFE#8] (withF 0x80#8 (withPc 0x0160#16 s0))) (fun t => (t.pc, t.cycles)) = some (0x0162#16, 8) := by decide

theorem test_J9_jr_nz_taken : see (ran [0x20#8, 0xFE#8] (withF 0x00#8 (withPc 0x0160#16 s0))) (fun t => (t.pc, t.cycles)) = some (0x0160#16, 12) := by decide

theorem test_J10_call : see (ran [0xCD#8, 0x00#8, 0x20#8] (withPc 0x0150#16 s0)) (fun t => (t.pc, t.sp, byteAt 0xFFFD#16 t, byteAt 0xFFFC#16 t, t.cycles)) = some (0x2000#16, 0xFFFC#16, some 0x01#8, some 0x53#8, 24) := by decide

theorem test_J11_call_nc_taken : see (ran [0xD4#8, 0x00#8, 0x20#8] (withF 0x00#8 (withPc 0x0150#16 s0))) (fun t => (t.pc, t.sp, t.cycles)) = some (0x2000#16, 0xFFFC#16, 24) := by decide

theorem test_J12_call_nc_not_taken : see (ran [0xD4#8, 0x00#8, 0x20#8] (withF 0x10#8 (withPc 0x0150#16 s0))) (fun t => (t.pc, t.sp, t.cycles)) = some (0x0153#16, 0xFFFE#16, 12) := by decide

theorem test_J13_ret : see (ran [0xC9#8] (withSp 0xFFFC#16 (placeBytes 0xFFFC#16 [0x53#8, 0x01#8] s0))) (fun t => (t.pc, t.sp, t.cycles)) = some (0x0153#16, 0xFFFE#16, 16) := by decide

theorem test_J14_ret_z_taken : see (ran [0xC8#8] (withF 0x80#8 (withSp 0xFFFC#16 (placeBytes 0xFFFC#16 [0x53#8, 0x01#8] s0)))) (fun t => (t.pc, t.sp, t.cycles)) = some (0x0153#16, 0xFFFE#16, 20) := by decide

theorem test_J15_ret_z_not_taken : see (ran [0xC8#8] (withPc 0x0300#16 (withF 0x00#8 (withSp 0xFFFC#16 (placeBytes 0xFFFC#16 [0x53#8, 0x01#8] s0))))) (fun t => (t.pc, t.sp, t.cycles)) = some (0x0301#16, 0xFFFC#16, 8) := by decide

theorem test_J16_reti : see (ran [0xD9#8] ({ withSp 0xFFFC#16 (placeBytes 0xFFFC#16 [0x53#8, 0x01#8] s0) with imePending := .disable1 })) (fun t => (t.pc, t.ime, t.imePending, t.cycles)) = some (0x0153#16, true, .none, 16) := by decide

theorem test_J17_rst_28 : see (ran [0xEF#8] (withPc 0x0200#16 s0)) (fun t => (t.pc, byteAt 0xFFFD#16 t, byteAt 0xFFFC#16 t, t.cycles)) = some (0x0028#16, some 0x02#8, some 0x01#8, 16) := by decide

theorem test_J18_rst_38 : see (ran [0xFF#8] (withPc 0x0200#16 s0)) (fun t => (t.pc, byteAt 0xFFFC#16 t)) = some (0x0038#16, some 0x01#8) := by decide

theorem test_S1_nop : see (ran [0x00#8] (s0)) (fun t => (t.pc, t.cycles)) = some (0x0101#16, 4) := by decide

theorem test_S2_halt : see (ran [0x76#8] (withPc 0x0150#16 s0)) (fun t => (t.halted, t.pc)) = some (true, 0x0151#16) := by decide

theorem test_S3_halt_bug_faults : faulted (ran [0x76#8] (withIrq false 0x01#5 0x01#5 (withPc 0x0150#16 s0))) = some (some (.unmodelledHaltBug 0x0151#16)) := by decide

theorem test_S6_stop : see (ran [0x10#8, 0x00#8] (withPc 0x0200#16 { s0 with timer := { s0.timer with div := 0x5A#8, divAcc := 100 } })) (fun t => (t.pc, t.stopped, t.timer.div, t.timer.divAcc)) = some (0x0202#16, true, 0x00#8, 0) := by decide

theorem test_S9_di_is_delayed : see (ran [0xF3#8] (withIrq true 0x00#5 0x00#5 s0)) (fun t => (t.ime, t.imePending, (applyPending t).ime, (applyPending (applyPending t)).ime)) = some (true, .disable2, true, false) := by decide

theorem test_S10_ei_is_delayed : see (ran [0xFB#8] (s0)) (fun t => (t.ime, t.imePending, (applyPending t).ime, (applyPending (applyPending t)).ime)) = some (false, .enable2, false, true) := by decide

theorem test_S13_illegal_D3 : faulted (ran [0xD3#8] (withPc 0x0150#16 s0)) = some (some (.unimplementedOpcode 0xD3#8 0x0151#16)) := by decide

theorem test_S14_illegal_DB : faulted (ran [0xDB#8] (withPc 0x0150#16 s0)) = some (some (.unimplementedOpcode 0xDB#8 0x0151#16)) := by decide

theorem test_S14_illegal_DD : faulted (ran [0xDD#8] (withPc 0x0150#16 s0)) = some (some (.unimplementedOpcode 0xDD#8 0x0151#16)) := by decide

theorem test_S14_illegal_E3 : faulted (ran [0xE3#8] (withPc 0x0150#16 s0)) = some (some (.unimplementedOpcode 0xE3#8 0x0151#16)) := by decide

theorem test_S14_illegal_E4 : faulted (ran [0xE4#8] (withPc 0x0150#16 s0)) = some (some (.unimplementedOpcode 0xE4#8 0x0151#16)) := by decide

theorem test_S14_illegal_EB : faulted (ran [0xEB#8] (withPc 0x0150#16 s0)) = some (some (.unimplementedOpcode 0xEB#8 0x0151#16)) := by decide

theorem test_S14_illegal_EC : faulted (ran [0xEC#8] (withPc 0x0150#16 s0)) = some (some (.unimplementedOpcode 0xEC#8 0x0151#16)) := by decide

theorem test_S14_illegal_ED : faulted (ran [0xED#8] (withPc 0x0150#16 s0)) = some (some (.unimplementedOpcode 0xED#8 0x0151#16)) := by decide

theorem test_S14_illegal_F4 : faulted (ran [0xF4#8] (withPc 0x0150#16 s0)) = some (some (.unimplementedOpcode 0xF4#8 0x0151#16)) := by decide

theorem test_S14_illegal_FC : faulted (ran [0xFC#8] (withPc 0x0150#16 s0)) = some (some (.unimplementedOpcode 0xFC#8 0x0151#16)) := by decide

theorem test_S14_illegal_FD : faulted (ran [0xFD#8] (withPc 0x0150#16 s0)) = some (some (.unimplementedOpcode 0xFD#8 0x0151#16)) := by decide

theorem test_S15_fetch_faults : faulted (ran [0x00#8] (withPc 0xFEA0#16 s0)) = some (some (.unimplementedAddress 0xFEA0#16 .read 0xFEA0#16)) := by decide

/-! ### Memory, banking, loader and interrupts (section 2, M, K and I; 1.7 and 1.9) -/

theorem test_M1_echo : see (writeByte 0xE005#16 0x77#8 (s0)) (fun t => byteAt 0xC005#16 t) = some (some 0x77#8) := by decide

theorem test_M2_read_unmapped :
    faulted (andThen (readByte 0xFEA0#16 s0) fun r => .next r.2) =
      some (some (.unimplementedAddress 0xFEA0#16 .read 0x0100#16)) := by decide

theorem test_M3_write_unmapped :
    faulted (writeByte 0xFEFF#16 0x00#8 s0) = some (some (.unimplementedAddress 0xFEFF#16 .write 0x0100#16)) := by
  decide

theorem test_M5_io_stub : byteAt 0xFF10#16 { s0 with params := { s0.params with ioStubRead := 0xFF#8 } } = some 0xFF#8 := by
  decide

theorem test_M7_boot_latch : see (writeByte 0xFF50#16 0x01#8 ({ s0 with bootLatch := false })) (fun t => (t.bootLatch, byteAt 0x0000#16 t)) = some (true, some 0x00#8) := by decide

theorem test_M8_ie : see (writeByte 0xFFFF#16 0xFF#8 (s0)) (fun t => t.intEnable) = some 0x1F#5 := by decide

theorem test_M10_div : see (writeByte 0xFF04#16 0x33#8 ({ s0 with timer := { s0.timer with div := 0x5A#8, divAcc := 200 } })) (fun t => (t.timer.div, t.timer.divAcc)) = some (0x00#8, 0) := by decide

theorem test_M11_ly_read_only : see (writeByte 0xFF44#16 0x00#8 ({ s0 with io := { s0.io with ly := 0x90#8 } })) (fun t => t.io.ly) = some 0x90#8 := by decide

theorem test_M12_p1 : see (writeByte 0xFF00#16 0x00#8 ({ s0 with io := { s0.io with p1Input := 0xF#4, p1Select := 0b11#2 } })) (fun t => (t.io.p1Select, t.io.p1Input)) = some (0b00#2, 0xF#4) := by decide

theorem test_M13_stat : see (writeByte 0xFF41#16 0xFF#8 ({ s0 with io := { s0.io with statPpu := 0b001#3 } })) (fun t => (t.io.statCpu, t.io.statPpu)) = some (0b1111#4, 0b001#3) := by decide

theorem test_M14_tac : see (writeByte 0xFF07#16 0xFD#8 ({ s0 with timer := { s0.timer with timaAcc := 9 } })) (fun t => (t.timer.tac, t.timer.timaAcc)) = some (0b101#3, 9) := by decide

theorem test_M15_short_image : byteAt 0x7FFF#16 { s0 with cart := Cart.ofImage .noBanking [] 0x148 } = some 0x00#8 := by
  decide

theorem test_M19_ram_enable : see (writeByte 0x1FFF#16 0x1A#8 (banked)) (fun t => t.cart.ramEnable) = some true := by decide

theorem test_M20_zero_low_bank : see (writeByte 0x2000#16 0x20#8 (banked)) (fun t => t.cart.romLow) = some 1#5 := by decide

theorem test_M22_high_bank : see (writeByte 0x4000#16 0x02#8 (banked)) (fun t => (t.cart.romHigh, t.cart.ramBank)) = some (2#2, 0#2) := by decide

theorem test_M23_ram_bank : see (writeByte 0x4000#16 0x03#8 ({ banked with cart := { banked.cart with mode := true } })) (fun t => (t.cart.romHigh, t.cart.ramBank)) = some (0#2, 3#2) := by decide

theorem test_M24_mode : see (writeByte 0x6000#16 0x00#8 ({ banked with cart := { banked.cart with mode := true, ramBank := 3#2 } })) (fun t => (t.cart.mode, t.cart.ramBank)) = some (false, 0#2) := by decide

theorem test_M25_banked_ram : see (writeByte 0xA010#16 0x55#8 ({ banked with cart := { banked.cart with ramEnable := true, mode := true, ramBank := 2#2 } })) (fun t => memGet 0x4010 t.cart.cram) = some (some 0x55#8) := by decide

theorem test_M26_disabled_ram : see (writeByte 0xA010#16 0x55#8 (banked)) (fun t => t.cart.cram) = some [] := by decide

theorem test_M28_last_bank :
    byteAt 0x7FFF#16 { banked with cart := { banked.cart with romLow := 7#5, rom := [(0x1FFFF, 0x9C#8)] } } = some 0x9C#8 := by
  decide

theorem test_low_bank_zero_shows_bank_one :
    see (writeByte 0x2000#16 0x00#8 { banked with cart := { banked.cart with rom := [(0x0000, 0x31#8), (0x4000, 0x11#8)] } })
      (byteAt 0x4000#16) = some (some 0x11#8) := by decide

theorem test_K1_truncated : load defaultTypeMap (List.replicate 0x147 0x00#8) = .error (.truncatedCartridgeImage 0x147) := by
  unfold load
  rw [List.length_replicate]
  rfl

theorem test_K4_oversized : load defaultTypeMap (List.replicate 32769 0x00#8) = .error (.oversizedCartridgeImage 32769) := by
  unfold load
  rw [List.length_replicate, List.getD_replicate 0#8 (by decide)]
  rfl

/-- I1, I2: the state a service step starts from, and what it leaves. -/
def serviced (s : State) : Option (Nat × Word × BitVec 5 × Bool) :=
  match service s with
  | .next r => some (r.1, r.2.pc, r.2.intFlag, r.2.ime)
  | .fault _ => none
  | .refused _ => none

theorem test_I1_dispatch : serviced (withIrq true 0x1F#5 0x1F#5 s0) = some (20, 0x0040#16, 0x1E#5, false) := by
  decide

theorem test_I2_priority : serviced (withIrq true 0x1C#5 0x1F#5 s0) = some (20, 0x0050#16, 0x1B#5, false) := by
  decide

theorem test_I3_none_enabled : serviced (withIrq true 0x00#5 0x1F#5 s0) = some (0, 0x0100#16, 0x1F#5, true) := by
  decide

theorem test_I5_masked_clear :
    serviced (withPolicy .clearUnenabledWhenMasked (withIrq false 0x01#5 0x03#5 s0)) =
      some (0, 0x0100#16, 0x01#5, false) := by decide

theorem test_I7_masked_clear_after_dispatch :
    serviced (withPolicy .clearUnenabledWhenMasked (withIrq true 0x01#5 0x03#5 s0)) =
      some (20, 0x0040#16, 0x02#5, false) := by decide

theorem test_I8_clear_all : serviced (withPolicy .clearAllEveryCall (withIrq true 0x01#5 0x03#5 s0)) =
    some (20, 0x0040#16, 0x00#5, false) := by decide

theorem test_I13_dispatch_push_faults :
    faulted (andThen (service (withSp 0xFEA1#16 (withIrq true 0x01#5 0x01#5 s0))) fun r => .next r.2) =
      some (some (.unimplementedAddress 0xFEA0#16 .write 0x0100#16)) := by decide

/-! ### Timers, the step and the frame (2.10) -/

/-- FRAME_CYCLES = 0. -/
def emptyFrames (s : State) : State := { s with params := { s.params with frameCycles := 0 } }

def withTimer (div : Byte) (divAcc : Nat) (tima tma : Byte) (tac : BitVec 3) (timaAcc : Nat) (s : State) : State :=
  { s with timer := { div := div, divAcc := divAcc, tima := tima, tma := tma, tac := tac, timaAcc := timaAcc } }

theorem test_T1_divider : (tickDivider 12 (withTimer 0x10#8 250 0#8 0#8 0#3 0 s0)).timer.div = 0x11#8 := by decide

theorem test_T2_divider_wraps : (tickDivider 256 (withTimer 0xFF#8 0 0#8 0#8 0#3 0 s0)).timer.div = 0x00#8 := by decide

theorem test_T3_overflow_reloads :
    ((tickCounterRequest 16 (withTimer 0#8 0 0xFF#8 0x80#8 0x05#3 0 s0)).timer.tima,
      (tickCounterRequest 16 (withTimer 0#8 0 0xFF#8 0x80#8 0x05#3 0 s0)).intFlag) = (0x80#8, 0x05#5) := by decide

theorem test_T4_two_counts :
    ((tickCounter 44 (withTimer 0#8 0 0x10#8 0#8 0x05#3 0 s0)).2.timer.tima,
      (tickCounter 44 (withTimer 0#8 0 0x10#8 0#8 0x05#3 0 s0)).2.timer.timaAcc) = (0x12#8, 12) := by decide

theorem test_T6_slow_rate :
    ((tickCounter 8 (withTimer 0#8 0 0xFE#8 0#8 0x04#3 1020 s0)).2.timer.tima,
      (tickCounter 8 (withTimer 0#8 0 0xFE#8 0#8 0x04#3 1020 s0)).2.timer.timaAcc) = (0xFF#8, 4) := by decide

theorem test_T7_past_overflow :
    ((tickCounter 48 (withTimer 0#8 0 0xFE#8 0x00#8 0x05#3 0 s0)).2.timer.tima,
      (tickCounter 48 (withTimer 0#8 0 0xFE#8 0x00#8 0x05#3 0 s0)).1) = (0x01#8, true) := by decide

theorem test_T9_halted_iteration :
    see (step { withTimer 0x10#8 254 0#8 0#8 0#3 0 s0 with halted := true })
      (fun t => (t.timer.div, t.timer.divAcc, t.frameTotal, t.pc)) = some (0x10#8, 254, 4, 0x0100#16) := by decide

theorem test_T10_halted_iteration_with_divider :
    see (step { withTimer 0x10#8 254 0#8 0#8 0#3 0 s0 with
        halted := true, params := { s0.params with divTicksWhenHalted := true } })
      (fun t => (t.timer.div, t.timer.divAcc)) = some (0x11#8, 2) := by decide

theorem test_T11_dispatch_then_instruction :
    see (step (withIrq true 0x01#5 0x01#5 s0)) (fun t => (t.pc, t.frameTotal, t.timer.divAcc)) =
      some (0x0041#16, 24, 4) := by decide

theorem test_step_from_reset_runs_nop : see (step s0) (fun t => (t.pc, t.frameTotal)) = some (0x0101#16, 4) := by decide

theorem test_step_runs_the_fetch_word :
    see (step (s0.withFetchWord 8 0x3C)) (fun t => (t.regs.a, t.pc, t.cycles)) = some (0x02#8, 0x0101#16, 4) := by decide

theorem test_step_runs_an_extended_fetch_word :
    see (step (s0.withFetchWord 16 0x37CB)) (fun t => (t.regs.a, t.pc, t.cycles)) = some (0x10#8, 0x0102#16, 8) ∧
      see (step (s0.withFetchWord 16 0xCB37)) (fun t => (t.regs.a, t.pc, t.cycles)) = some (0x10#8, 0x0102#16, 8) := by
  decide

/-- 60_exceptions.md R451: `run_frame(0)` runs no iteration. -/
theorem test_T12_empty_frame : runFrame 0 s0 = .next s0 := rfl

/-- With FRAME_CYCLES = 0 a step moves neither PC nor the draws (R451, R463). -/
theorem test_step_with_empty_frames :
    see (step (emptyFrames { s0 with frameTotal := 7 })) (fun t => (t.pc, t.draws, t.frameTotal)) =
      some (0x0100#16, 0, 0) := by decide

/-- The fetch word runs at the very next step even there. -/
theorem test_step_runs_the_fetch_word_of_an_empty_frame :
    see (step ((emptyFrames s0).withFetchWord 8 0x3C)) (fun t => (t.regs.a, t.pc)) = some (0x02#8, 0x0101#16) := by decide

/-- R405: a frame of a faulted core is its fault, with PC where it was. -/
theorem test_frame_of_a_faulted_core :
    faulted (runFrame 8 { s0 with fault := some (.unmodelledHaltBug 0x0151#16) }) =
      some (some (.unmodelledHaltBug 0x0151#16)) := by decide

/-- R405: `PUSH BC` at SP = 0xFF00 faults in the frame's first iteration, which ends without its ticks. -/
theorem test_fault_ends_the_frame :
    faulted (runFrame 8 (placeBytes 0x0100#16 [0xC5#8] (withSp 0xFF00#16 s0))) =
      some (some (.unimplementedAddress 0xFEFF#16 .write 0x0101#16)) := by decide

/-- 20_memory.md R150, 70_reset_and_hazards.md R480-R482: the session of the reset image starts at State.reset, and
no session starts from an image cut short. -/
theorem test_session_of_the_reset_image :
    startSession defaultTypeMap defaultPostBoot defaultParams resetImage = .ok State.reset ∧
      startSession defaultTypeMap defaultPostBoot defaultParams [] = .error (.truncatedCartridgeImage 0) :=
  ⟨startSession_of_load_ok load_resetImage, rfl⟩

/-! ### Witnesses: for every statement with hypotheses, states and operands that meet them, clause by clause, at the
edges of their ranges -/

theorem test_witness_LoadsAndStoresThroughHl :
    mapped (withHl 0xFE9F#16 s0).hl = true ∧ mapped (withHl 0xFEA0#16 s0).hl = false ∧
      mapped (withHl 0xFEFF#16 s0).hl = false ∧ mapped (withHl 0xFF00#16 s0).hl = true := by decide

theorem test_witness_LoadAThroughPairs :
    mapped (withBc 0xFE9F#16 s0).bc = true ∧ mapped (withBc 0xFEA0#16 s0).bc = false ∧
      mapped (withDe 0xFF00#16 s0).de = true ∧ mapped (withDe 0xFEFF#16 s0).de = false ∧
      mapped (withHl 0xFFFF#16 s0).hl = true ∧ mapped (withHl 0xFEA0#16 s0).hl = false := by decide

theorem test_witness_StoreAThroughPairs :
    mapped (withBc 0xFF00#16 s0).bc = true ∧ mapped (withBc 0xFEFF#16 s0).bc = false ∧
      mapped (withDe 0xFE9F#16 s0).de = true ∧ mapped (withDe 0xFEA0#16 s0).de = false ∧
      mapped (withHl 0x0000#16 s0).hl = true ∧ mapped (withHl 0xFEFF#16 s0).hl = false := by decide

theorem test_witness_HighPageAndAbsoluteTransfers :
    mapped (wordOf 0xFF#8 0x00#8) = true ∧ mapped (wordOf 0xFF#8 (withBc 0x00FF#16 s0).regs.c) = true ∧
      mapped 0xFE9F#16 = true ∧ mapped 0xFEA0#16 = false ∧ mapped 0xFEFF#16 = false := by decide

theorem test_witness_StoreStackPointerLowByteFirst :
    (mapped 0xFE9E#16 = true ∧ mapped (0xFE9E#16 + 1#16) = true) ∧
      (mapped 0xFFFF#16 = true ∧ mapped (0xFFFF#16 + 1#16) = true) ∧ mapped 0xFEA0#16 = false ∧
      mapped 0xFEFF#16 = false ∧ (mapped 0xFE9F#16 = true ∧ mapped (0xFE9F#16 + 1#16) = false) := by decide

/-- The three cases of a push, at SP 0xFEA0 and 0x0001, 0xFEA1 and 0xFF00, and 0xFF01. -/
def pushCases (sp : Word) : Bool × Bool := (mapped (sp - 1#16), mapped (sp - 2#16))

theorem test_witness_PushInstructions :
    [0xFEA0#16, 0x0001#16, 0xFEA1#16, 0xFF00#16, 0xFF01#16].map pushCases =
      [(true, true), (true, true), (false, true), (false, false), (true, false)] := by decide

/-- The three cases of a pop. -/
def popCases (sp : Word) : Bool × Bool := (mapped sp, mapped (sp + 1#16))

theorem test_witness_PopInstructions :
    [0xFE9E#16, 0xFFFF#16, 0xFEA0#16, 0xFEFF#16, 0xFE9F#16].map popCases =
      [(true, true), (true, true), (false, false), (false, true), (true, false)] := by decide

theorem test_witness_PushOrderAndPushPopRoundTrip :
    [0x8002#16, 0xFEA0#16, 0xFF82#16, 0xFFFF#16].all (fun sp => plainRam (sp - 1#16) && plainRam (sp - 2#16)) = true ∧
      [0xFEA0#16, 0xFEA1#16, 0xFF01#16].map pushCases = [(true, true), (false, true), (true, false)] := by decide

theorem test_witness_AddAndAddWithCarry :
    mapped (withHl 0xFE9F#16 s0).hl = true ∧ mapped (withHl 0xFEA0#16 s0).hl = false := by decide

theorem test_witness_SubtractAndCompare :
    mapped (withHl 0xFF00#16 s0).hl = true ∧ mapped (withHl 0xFEFF#16 s0).hl = false := by decide

theorem test_witness_BitwiseLogic :
    mapped (withHl 0x0000#16 s0).hl = true ∧ mapped (withHl 0xFEA0#16 s0).hl = false := by decide

theorem test_witness_IncrementAndDecrementBytes :
    mapped (withHl 0xFFFF#16 s0).hl = true ∧ mapped (withHl 0xFEFF#16 s0).hl = false := by decide

theorem test_witness_ExtendedRotatesAndShifts :
    mapped (withHl 0xFE9F#16 s0).hl = true ∧ mapped (withHl 0xFEFF#16 s0).hl = false := by decide

theorem test_witness_BitTestResetAndSet :
    mapped (withHl 0xFF00#16 s0).hl = true ∧ mapped (withHl 0xFEA0#16 s0).hl = false := by decide

theorem test_witness_DecimalAdjustMakesDecimalSums :
    (0 < 100 ∧ 99 < 100 ∧ (withA 0x00#8 0x00#8 s0).regs.a = bcd 0) ∧ (withA 0x99#8 0x00#8 s0).regs.a = bcd 99 := by decide

theorem test_witness_AccumulatorRotates :
    (Instr.rlca, ShiftOp.rlc) ∈ [(Instr.rlca, ShiftOp.rlc), (.rrca, .rrc), (.rla, .rl), (.rra, .rr)] ∧
      (Instr.rra, ShiftOp.rr) ∈ [(Instr.rlca, ShiftOp.rlc), (.rrca, .rrc), (.rla, .rl), (.rra, .rr)] := by decide

theorem test_witness_ConditionalJumps :
    (Taken .nz (Flags.ofByte 0x00#8) ∧ Taken .z (Flags.ofByte 0x80#8) ∧ Taken .nc (Flags.ofByte 0x00#8) ∧
        Taken .c (Flags.ofByte 0x10#8)) ∧
      ¬Taken .nz (Flags.ofByte 0x80#8) ∧ ¬Taken .z (Flags.ofByte 0x00#8) ∧ ¬Taken .nc (Flags.ofByte 0x10#8) ∧
      ¬Taken .c (Flags.ofByte 0x00#8) := by unfold Taken; decide

theorem test_witness_CallsAndRestarts :
    (Taken .nz (Flags.ofByte 0x00#8) ∧ ¬Taken .c (Flags.ofByte 0x00#8)) ∧
      [0xFEA0#16, 0xFEA1#16, 0xFF01#16].map pushCases = [(true, true), (false, true), (true, false)] := by
  unfold Taken; decide

theorem test_witness_Returns :
    (Taken .z (Flags.ofByte 0x80#8) ∧ ¬Taken .nc (Flags.ofByte 0x10#8)) ∧
      [0xFFFF#16, 0xFEA0#16, 0xFE9F#16].map popCases = [(true, true), (false, false), (true, false)] := by
  unfold Taken; decide

theorem test_witness_HaltWaitsOrFaults :
    (withIrq true 0x01#5 0x01#5 s0).ime = true ∧ s0.intEnable &&& s0.intFlag = 0#5 ∧
      ((withIrq false 0x01#5 0x01#5 s0).ime = false ∧ (0x01#5 : BitVec 5) &&& 0x01#5 ≠ 0#5) := by decide

theorem test_witness_PrefixRunsTheExtendedRow :
    (∃ v, peek (Config.freeByte s0.draws) s0.pc s0 = some v) ∧ mapped (withPc 0xFEA0#16 s0).pc = false ∧
      (mapped s0.pc = true ∧ mapped s0.hl = true) := ⟨⟨_, rfl⟩, by decide⟩

theorem test_witness_DecodeOfEncode : Instr.wellFormed (.ldSpD16 0xFFFF#16) = true ∧ Instr.wellFormed .set7A = true := by decide

theorem test_witness_EveryByteSequenceDecodes : decode [0xCB#8, 0xFF#8, 0x00#8] = .ok (.set7A, [0x00#8]) := by rfl

/-- A step without a dispatch, of a one-byte instruction. -/
theorem test_witness_StepRunsTheDecodedInstruction :
    s0.fault = none ∧ 0 < s0.params.frameCycles ∧ service (applyPending (beginFrame s0)) = .next (0, s0) ∧ s0.halted = false ∧ s0.stopped = false ∧
      Instr.wellFormed .nop = true ∧ decode [0x00#8] = .ok (.nop, []) ∧
      ∀ k, k < 1 → peek (Config.freeByte (s0.draws + k)) (s0.pc + BitVec.ofNat 16 k) s0 = [0x00#8][k]? := by
  refine ⟨rfl, by decide, rfl, rfl, rfl, rfl, rfl, fun k hk => ?_⟩
  obtain rfl : k = 0 := by omega
  rfl

/-- A step that dispatches first, then runs a three-byte instruction at the vector. -/
theorem test_witness_StepRunsTheDecodedInstruction_after_dispatch :
    ∃ u, service (applyPending (beginFrame (placeBytes 0x0040#16 [0xC3#8, 0x34#8, 0x12#8] (withIrq true 0x01#5 0x01#5 s0)))) =
        .next (20, u) ∧ u.halted = false ∧ u.stopped = false ∧
      decode [0xC3#8, 0x34#8, 0x12#8] = .ok (.jpA16 0x1234#16, []) ∧
      peek (Config.freeByte u.draws) u.pc u = some 0xC3#8 ∧
      peek (Config.freeByte (u.draws + 1)) (u.pc + 1#16) u = some 0x34#8 ∧
      peek (Config.freeByte (u.draws + 2)) (u.pc + 2#16) u = some 0x12#8 := ⟨_, rfl, rfl, rfl, rfl, rfl, rfl, rfl⟩

theorem test_witness_OnlyTheUnmappedRangeFaults :
    ((0xFEA0#16).toNat ≥ 0xFEA0 ∧ (0xFEFF#16).toNat ≤ 0xFEFF) ∧ (0xFE9F#16).toNat < 0xFEA0 ∧ 0xFEFF < (0xFF00#16).toNat := by
  decide

theorem test_witness_PlainStorageReadsBack :
    [0x8000#16, 0x9FFF#16, 0xC000#16, 0xDDFF#16, 0xDE00#16, 0xE000#16, 0xFDFF#16, 0xFE00#16, 0xFE9F#16, 0xFF80#16, 0xFFFE#16].all
      plainRam = true := by decide

theorem test_witness_IoRegistersRead :
    ((0xFF03#16).toNat ∉ knownIo ∧ (0xFF7F#16).toNat ∉ knownIo) ∧ 0xFF00 ≤ (0xFF03#16).toNat ∧ (0xFF7F#16).toNat ≤ 0xFF7F := by
  decide

theorem test_witness_IoRegistersWrite :
    ((0xFF08#16).toNat ∉ knownIo ∧ (0xFF4A#16).toNat ∉ knownIo) ∧ 0xFF00 ≤ (0xFF08#16).toNat ∧ (0xFF4A#16).toNat ≤ 0xFF7F := by
  decide

theorem test_witness_BootOverlayCoversReadsUntilLatched :
    ((0x00FF#16).toNat ≤ 0x00FF ∧ { s0 with bootLatch := false }.bootLatch = false ∧ s0.bootLatch = true) ∧
      see (step s0) (fun t => t.bootLatch) = some true := by decide

theorem test_witness_NoBankingCartridge :
    s0.cart.variant = .noBanking ∧ ((0x7FFF#16).toNat ≤ 0x7FFF ∧ s0.bootLatch = true) ∧ 0x00FF < (0x0100#16).toNat ∧
      (0xA000 ≤ (0xA000#16).toNat ∧ (0xBFFF#16).toNat ≤ 0xBFFF) := by decide

theorem test_witness_BankRegistersWrite :
    banked.cart.variant = .switchableBanking ∧ (0x1FFF#16).toNat ≤ 0x1FFF ∧
      (0x2000 ≤ (0x2000#16).toNat ∧ (0x3FFF#16).toNat ≤ 0x3FFF) ∧ (0x4000 ≤ (0x4000#16).toNat ∧ (0x5FFF#16).toNat ≤ 0x5FFF) ∧
      (0x6000 ≤ (0x6000#16).toNat ∧ (0x7FFF#16).toNat ≤ 0x7FFF) ∧
      (0xA000 ≤ (0xA000#16).toNat ∧ (0xBFFF#16).toNat ≤ 0xBFFF) := by decide

theorem test_witness_BankWindowsRead :
    banked.cart.variant = .switchableBanking ∧ ((0x0100#16).toNat ≤ 0x3FFF ∧ banked.bootLatch = true) ∧
      (0x4000 ≤ (0x4000#16).toNat ∧ (0x7FFF#16).toNat ≤ 0x7FFF) ∧ banked.cart.ramEnable = false ∧
      { banked with cart := { banked.cart with ramEnable := true } }.cart.ramEnable = true := by decide

/-- The loader's cases: cut short, an unknown type, too long, and an image each variant takes. -/
theorem test_witness_LoaderChecksAndBuilds :
    (List.replicate 0x147 0x00#8).length < 0x148 ∧ 0x148 ≤ (List.replicate 0x148 0x05#8).length ∧
      typeLookup ((List.replicate 0x148 0x05#8).getD 0x147 0#8) defaultTypeMap = none ∧
      typeLookup ((List.replicate 32769 0x00#8).getD 0x147 0#8) defaultTypeMap = some .noBanking ∧
      32768 < (List.replicate 32769 0x00#8).length ∧
      typeLookup ((List.replicate 131072 0x01#8).getD 0x147 0#8) defaultTypeMap = some .switchableBanking ∧
      (List.replicate 131072 0x01#8).length ≤ 131072 := by
  rw [List.getD_replicate 0x05#8 (by decide), List.getD_replicate 0x00#8 (by decide),
    List.getD_replicate 0x01#8 (by decide)]
  rw [List.length_replicate, List.length_replicate, List.length_replicate, List.length_replicate]
  decide

/-- `LD (HL),H` at 0xC000 leaves 0xC001 and 0xDFFF alone, and not its echo 0xE000. -/
theorem test_witness_InstructionsKeepOtherBytes :
    (∃ t, exec .ldIndHlH (withHl 0xC000#16 s0) = .next t) ∧ storeTargets .ldIndHlH (withHl 0xC000#16 s0) = [0xC000#16] ∧
      disturbs s0 0xC000#16 0xC001#16 = false ∧ disturbs s0 0xC000#16 0xDFFF#16 = false ∧
      disturbs s0 0xC000#16 0xE000#16 = true := ⟨⟨_, rfl⟩, by decide⟩

theorem test_witness_StoresChangeOnlyTheirBand :
    (∃ w, writeByte 0xC000#16 0x12#8 s0 = .next w) ∧
      (0x7FFF < (0x8000#16).toNat ∧ (0x9FFF#16).toNat < 0xA000 ∧ 0xBFFF < (0xC000#16).toNat) ∧
      (0xFE9F < (0xFF00#16).toNat ∧ (0xFF7F#16).toNat < 0xFF80) ∧ (0xFFFF#16).toNat = 0xFFFF ∧ (0xFF04#16).toNat ∉ ioCells ∧
      (0xFF03#16).toNat < 0xFF04 ∧ 0xFF07 < (0xFF08#16).toNat := ⟨⟨_, rfl⟩, by decide⟩

theorem test_witness_ControlStateFrame :
    (∃ t, exec .nop s0 = .next t) ∧ Instr.nop ≠ .reti ∧ Instr.nop ≠ .ei ∧ Instr.nop ≠ .di ∧ Instr.nop ≠ .halt ∧
      (∀ b, Instr.nop ≠ .stop b) ∧ 0xFFFF#16 ∉ storeTargets .nop s0 ∧ 0xFF0F#16 ∉ storeTargets .nop s0 ∧
      0xFF50#16 ∉ storeTargets .nop s0 :=
  ⟨⟨_, rfl⟩, by decide, by decide, by decide, by decide, fun _ => nofun, by decide, by decide, by decide⟩

theorem test_witness_CycleCountsAreLegal :
    (∃ t, exec .nop s0 = .next t) ∧ ∃ t, exec (.callA16 0x1234#16) s0 = .next t := ⟨⟨_, rfl⟩, ⟨_, rfl⟩⟩

theorem test_witness_PendingImeChange : (∃ t, exec .ei s0 = .next t) ∧ ∃ t, exec .di s0 = .next t := ⟨⟨_, rfl⟩, ⟨_, rfl⟩⟩

theorem test_witness_DispatchPushesPcAndVectors :
    [0xFEA0#16, 0xFEA1#16, 0xFF01#16].map pushCases = [(true, true), (false, true), (true, false)] := by decide

theorem test_witness_ServiceStep :
    ({ s0 with stopped := true }.stopped = true ∧ s0.intFlag.getLsbD 4 = false) ∧ s0.stopped = false ∧
      (withIrq true 0x10#5 0x10#5 s0).intFlag.getLsbD 4 = true ∧ s0.intEnable &&& s0.intFlag = 0#5 ∧
      ((0x01#5 : BitVec 5) &&& 0x01#5 ≠ 0#5 ∧ (withIrq false 0x01#5 0x01#5 s0).ime = false) ∧
      (((0x10#5 : BitVec 5) &&& 0x1F#5).getLsbD Irq.inputEdge.bit = true ∧
        (∀ j, j < Irq.inputEdge.bit → ((0x10#5 : BitVec 5) &&& 0x1F#5).getLsbD j = false) ∧
        (withIrq true 0x10#5 0x1F#5 s0).ime = true) := by decide

theorem test_witness_DividerAndCounterTick :
    s0.timer.tac.getLsbD 2 = false ∧
      [0x04#3, 0x05#3, 0x06#3, 0x07#3].map (fun tac => (tac.getLsbD 2, [1024, 16, 64, 256][tac.toNat % 4]?)) =
        [(true, some 1024), (true, some 16), (true, some 64), (true, some 256)] ∧
      (s0.timer.timaAcc + 15 < 16 ∧ 16 ≤ s0.timer.timaAcc + 16) := by decide

theorem test_witness_SchedulerIteration :
    (s0.fault = none ∧ service (applyPending s0) = .next (0, s0) ∧ s0.halted = false ∧ s0.stopped = false ∧
        ∃ t, executeOne s0 = .next t) ∧
      ((withPc 0xFEA0#16 s0).fault = none ∧
        service (applyPending (withPc 0xFEA0#16 s0)) = .next (0, withPc 0xFEA0#16 s0) ∧
        ∃ e, executeOne (withPc 0xFEA0#16 s0) = .fault e) ∧
      (service (applyPending { s0 with halted := true }) = .next (0, { s0 with halted := true })) ∧
      service (applyPending { s0 with stopped := true }) = .next (0, { s0 with stopped := true }) :=
  ⟨⟨rfl, rfl, rfl, rfl, _, rfl⟩, ⟨rfl, rfl, _, rfl⟩, rfl, rfl⟩

theorem test_witness_FrameEndsWithBoundedOvershoot :
    (∃ t, runFrame 0 s0 = .next t) ∧ ∃ t, runFrame 1 s0 = .next t := ⟨⟨_, rfl⟩, ⟨_, rfl⟩⟩

theorem test_witness_FaultedCoreTakesNoStep :
    { s0 with fault := some (.unmodelledHaltBug 0x0151#16) }.fault = some (.unmodelledHaltBug 0x0151#16) := by decide

theorem test_witness_EveryStepKeepsTheInvariant : (withPc 0x0150#16 s0).Inv ∧ ∃ t, step (withPc 0x0150#16 s0) = .next t :=
  ⟨⟨rfl, rfl, rfl, rfl, rfl, by decide, by decide, by decide, fun _ => rfl, by decide, by decide, rfl⟩, ⟨_, rfl⟩⟩

/-- An image that loads and one that does not. -/
theorem test_witness_ResetValues :
    load defaultTypeMap resetImage = .ok Cart.atReset ∧ load defaultTypeMap [] = .error (.truncatedCartridgeImage 0) :=
  ⟨load_resetImage, rfl⟩

/-- A session that starts and one that does not; a total of 0, one that is spent, and an empty frame. -/
theorem test_witness_SessionIsARunOfSteps :
    startSession defaultTypeMap defaultPostBoot defaultParams resetImage = .ok State.reset ∧
      startSession defaultTypeMap defaultPostBoot defaultParams [] = .error (.truncatedCartridgeImage 0) ∧
      (s0.fault = none ∧ s0.frameTotal = 0) ∧
      { s0 with frameTotal := 69905 }.params.frameCycles ≤ { s0 with frameTotal := 69905 }.frameTotal ∧
      (emptyFrames s0).params.frameCycles = 0 :=
  ⟨startSession_of_load_ok load_resetImage, rfl, ⟨rfl, rfl⟩, by decide, rfl⟩

end Sys2Proof.Tests
end

section
/-! The loads and stores of 40_loads.md (R200-R219, R221): the encoding and the meaning of each form, over every operand, and the obligations they settle. -/

namespace Sys2Proof.Machine

/-! ### The encoding of each form, over its operand fields (30_encoding.md R183, R184) -/

theorem encode_ofLd (dst src : Reg8) :
    encode (.ofLd dst src) = [BitVec.ofNat 8 (0x40 + 8 * regCode dst + regCode src)] := by
  cases dst <;> cases src <;> rfl

theorem encode_ofLdInd (dst : Reg8) : encode (.ofLdInd dst) = [BitVec.ofNat 8 (0x46 + 8 * regCode dst)] := by
  cases dst <;> rfl

theorem encode_ofStInd (src : Reg8) : encode (.ofStInd src) = [BitVec.ofNat 8 (0x70 + regCode src)] := by
  cases src <;> rfl

theorem encode_ofLdImm (dst : Reg8) (d8 : Byte) :
    encode (.ofLdImm dst d8) = [BitVec.ofNat 8 (0x06 + 8 * regCode dst), d8] := by
  cases dst <;> rfl

theorem encode_ofLdPair (p : Rp) (d16 : Word) :
    encode (.ofLdPair p d16) = [BitVec.ofNat 8 (0x01 + 16 * rpCode p), loByte d16, hiByte d16] := by
  cases p <;> rfl

/-! ### The meaning of each form, over its operand fields -/

theorem exec_ofLd (dst src : Reg8) (s : State) : exec (.ofLd dst src) s = ldReg dst src s := by
  cases dst <;> cases src <;> rfl

theorem exec_ofLdInd (dst : Reg8) (s : State) : exec (.ofLdInd dst) s = ldRegInd dst s := by
  cases dst <;> rfl

theorem exec_ofStInd (src : Reg8) (s : State) : exec (.ofStInd src) s = stInd src s := by
  cases src <;> rfl

theorem exec_ofLdImm (dst : Reg8) (d8 : Byte) (s : State) : exec (.ofLdImm dst d8) s = ldRegImm dst d8 s := by
  cases dst <;> rfl

theorem exec_ofLdPair (p : Rp) (d16 : Word) (s : State) : exec (.ofLdPair p d16) s = ldPairImm p d16 s := by
  cases p <;> rfl

theorem exec_ofLdPtr (p : Ptr) (s : State) : exec (.ofLdPtr p) s = ldAPtr p s := by
  cases p <;> rfl

theorem exec_ofStPtr (p : Ptr) (s : State) : exec (.ofStPtr p) s = stAPtr p s := by
  cases p <;> rfl

theorem exec_ldIndHlD8 (d8 : Byte) (s : State) : exec (.ldIndHlD8 d8) s = stIndImm d8 s := rfl

theorem exec_ldhIndA8A (a8 : Byte) (s : State) : exec (.ldhIndA8A a8) s = storeA (highPage a8) 12 s := rfl

theorem exec_ldhAIndA8 (a8 : Byte) (s : State) : exec (.ldhAIndA8 a8) s = loadA (highPage a8) 12 s := rfl

theorem exec_ldIndCA (s : State) : exec .ldIndCA s = storeA (highPage s.regs.c) 8 s := rfl

theorem exec_ldAIndC (s : State) : exec .ldAIndC s = loadA (highPage s.regs.c) 8 s := rfl

theorem exec_ldIndA16A (a16 : Word) (s : State) : exec (.ldIndA16A a16) s = storeA a16 16 s := rfl

theorem exec_ldAIndA16 (a16 : Word) (s : State) : exec (.ldAIndA16 a16) s = loadA a16 16 s := rfl

theorem exec_ldSpHl (s : State) : exec .ldSpHl s = ldSpHl s := rfl

/-! ### The pointer forms after a store, and the high page -/

theorem hl_of_regs {s w : State} (h : w.regs = s.regs) : w.hl = s.hl := by
  unfold State.hl
  rw [h]

/-- HL moved on after an access that left the registers alone (40_loads.md R211: the store of `LD (HL+),A` is one). -/
theorem ptrStep_hlInc_of_regs {s w : State} (h : w.regs = s.regs) :
    ptrStep .hlInc w = { w with regs := { s.regs with h := hiByte (s.hl + 1#16), l := loByte (s.hl + 1#16) } } := by
  rw [← h, ← hl_of_regs h]
  rfl

/-- HL moved back after an access that left the registers alone (R212). -/
theorem ptrStep_hlDec_of_regs {s w : State} (h : w.regs = s.regs) :
    ptrStep .hlDec w = { w with regs := { s.regs with h := hiByte (s.hl - 1#16), l := loByte (s.hl - 1#16) } } := by
  rw [← h, ← hl_of_regs h]
  rfl

theorem toNat_highPage (a8 : Byte) : (highPage a8).toNat = 0xFF00 + a8.toNat := toNat_wordOf 0xFF#8 a8

/-- The high page lies above the one unmapped range (20_memory.md R101). -/
theorem mapped_highPage (a8 : Byte) : mapped (highPage a8) = true := by
  have above : 0xFEFF < (highPage a8).toNat := by
    rw [toNat_highPage]
    omega
  unfold mapped
  rw [decide_eq_true above, Bool.or_true]

end Sys2Proof.Machine

namespace Sys2Proof.Claims

open Sys2Proof.Machine

/-! ### An instruction that is one access and what follows it -/

/-- An instruction that reads `a` and goes on with `k` is of the shape `ReadsThen`: the two cases are those of
`readByte`. -/
theorem ReadsThen.of_exec {i : Instr} {s : State} {a : Word} {g : Byte → State → State}
    {k : Byte × State → Out State} (hi : exec i s = andThen (readByte a s) k)
    (hk : ∀ v, k (v, { s with draws := s.draws + 1 }) = .next (g v { s with draws := s.draws + 1 })) :
    ReadsThen i s a g := by
  refine ⟨fun hm => ?_, fun hm => ?_⟩
  · obtain ⟨v, hv⟩ := (mapped_iff_peek (Config.freeByte s.draws) a s).1 hm
    exact ⟨v, hv, by rw [hi, readByte_of_peek hv, andThen_next, hk]⟩
  · rw [hi, readByte_unmapped s hm]
    rfl

/-- An instruction that stores `v` at `a` and goes on with `k` is of the shape `WritesThen`. -/
theorem WritesThen.of_exec {i : Instr} {s : State} {a : Word} {v : Byte} {g : State → State}
    {k : State → Out State} (hi : exec i s = andThen (writeByte a v s) k)
    (hk : ∀ w, writeByte a v s = .next w → k w = .next (g w)) : WritesThen i s a v g := by
  refine ⟨fun hm => ?_, fun hm => ?_⟩
  · obtain ⟨w, hw⟩ := writeByte_mapped v s hm
    exact ⟨w, hw, by rw [hi, hw, andThen_next, hk w hw]⟩
  · rw [hi, writeByte_unmapped v s hm]
    rfl

/-! ### The obligations -/

/-- Settles O3: each form is one access at HL and then `done`. -/
theorem loadsAndStoresThroughHl : Obligations.LoadsAndStoresThroughHl := by
  intro s
  refine ⟨fun dst => ⟨encode_ofLdInd dst, ?_⟩, fun src => ⟨encode_ofStInd src, ?_⟩, fun d8 => ⟨rfl, ?_⟩⟩
  · exact .of_exec (exec_ofLdInd dst s) fun _ => rfl
  · exact .of_exec (exec_ofStInd src s) fun _ _ => rfl
  · exact .of_exec (exec_ldIndHlD8 d8 s) fun _ _ => rfl

/-- Settles O4: the read at the pointer, then A and, for the moving forms, HL. -/
theorem loadAThroughPairs : Obligations.LoadAThroughPairs := by
  intro s
  refine ⟨rfl, rfl, rfl, rfl, ?_, ?_, ?_, ?_⟩
  · exact .of_exec (exec_ofLdPtr .bc s) fun _ => rfl
  · exact .of_exec (exec_ofLdPtr .de s) fun _ => rfl
  · exact .of_exec (exec_ofLdPtr .hlInc s) fun _ => rfl
  · exact .of_exec (exec_ofLdPtr .hlDec s) fun _ => rfl

/-- Settles O5: the store at the pointer leaves the registers, so a moving form counts from the old HL. -/
theorem storeAThroughPairs : Obligations.StoreAThroughPairs := by
  intro s
  refine ⟨rfl, rfl, rfl, rfl, ?_, ?_, ?_, ?_⟩
  · exact .of_exec (exec_ofStPtr .bc s) fun _ _ => rfl
  · exact .of_exec (exec_ofStPtr .de s) fun _ _ => rfl
  · exact .of_exec (exec_ofStPtr .hlInc s) fun _ hw =>
      congrArg (done 8) (ptrStep_hlInc_of_regs (writeByte_regs hw))
  · exact .of_exec (exec_ofStPtr .hlDec s) fun _ hw =>
      congrArg (done 8) (ptrStep_hlDec_of_regs (writeByte_regs hw))

/-- Settles O6: the high page is never unmapped, and every form is one access and then `done`. -/
theorem highPageAndAbsoluteTransfers : Obligations.HighPageAndAbsoluteTransfers := by
  intro s a8 a16
  refine ⟨toNat_highPage a8, mapped_highPage a8, rfl, rfl, rfl, rfl, rfl, rfl, ?_, ?_, ?_, ?_, ?_, ?_⟩
  · exact .of_exec (exec_ldhIndA8A a8 s) fun _ _ => rfl
  · exact .of_exec (exec_ldhAIndA8 a8 s) fun _ => rfl
  · exact .of_exec (exec_ldIndCA s) fun _ _ => rfl
  · exact .of_exec (exec_ldAIndC s) fun _ => rfl
  · exact .of_exec (exec_ldIndA16A a16 s) fun _ _ => rfl
  · exact .of_exec (exec_ldAIndA16 a16 s) fun _ => rfl

/-- Settles O2: the encodings and the meanings of the register forms, over every operand. -/
theorem registerAndPairLoads : Obligations.RegisterAndPairLoads :=
  fun s =>
    ⟨fun dst src => ⟨encode_ofLd dst src, exec_ofLd dst src s⟩,
      fun dst d8 => ⟨encode_ofLdImm dst d8, exec_ofLdImm dst d8 s⟩,
      fun p d16 => ⟨encode_ofLdPair p d16, exec_ofLdPair p d16 s⟩, rfl, exec_ldSpHl s⟩

end Sys2Proof.Claims
end

section
/-! The 8-bit arithmetic and logic of 41_alu8.md (R250-R266): the meaning of each form over its operands, the flag rules on exact integers, and the obligations they settle. -/

namespace Sys2Proof.Machine

/-! ### The encoding and the meaning of each form, over its operand fields (30_encoding.md R183, R186) -/

theorem encode_ofAlu_reg (op : AluOp) (r : Reg8) :
    encode (.ofAlu op (.reg r)) = [BitVec.ofNat 8 (0x80 + 8 * aluCode op + regCode r)] := by
  cases op <;> cases r <;> rfl

theorem encode_ofAlu_indHl (op : AluOp) : encode (.ofAlu op .indHl) = [BitVec.ofNat 8 (0x86 + 8 * aluCode op)] := by
  cases op <;> rfl

theorem encode_ofAlu_imm (op : AluOp) (d8 : Byte) :
    encode (.ofAlu op (.imm d8)) = [BitVec.ofNat 8 (0xC6 + 8 * aluCode op), d8] := by
  cases op <;> rfl

theorem exec_ofAlu (op : AluOp) (src : Src) (s : State) : exec (.ofAlu op src) s = aluOnA op src s := by
  cases src with
  | reg r => cases op <;> cases r <;> rfl
  | indHl => cases op <;> rfl
  | imm d8 => cases op <;> rfl

theorem encode_ofInc (l : Loc) : encode (.ofInc l) = [BitVec.ofNat 8 (0x04 + 8 * locCode l)] := by
  cases l with
  | reg r => cases r <;> rfl
  | indHl => rfl

theorem encode_ofDec (l : Loc) : encode (.ofDec l) = [BitVec.ofNat 8 (0x05 + 8 * locCode l)] := by
  cases l with
  | reg r => cases r <;> rfl
  | indHl => rfl

theorem exec_ofInc (l : Loc) (s : State) : exec (.ofInc l) s = modifyLoc l inc8 (locCycles l 4 12) s := by
  cases l with
  | reg r => cases r <;> rfl
  | indHl => rfl

theorem exec_ofDec (l : Loc) (s : State) : exec (.ofDec l) s = modifyLoc l dec8 (locCycles l 4 12) s := by
  cases l with
  | reg r => cases r <;> rfl
  | indHl => rfl

theorem exec_daa (s : State) : exec .daa s = decimalAdjust s := rfl

theorem exec_cpl (s : State) : exec .cpl s = complementA s := rfl

theorem exec_scf (s : State) : exec .scf s = setCarry s := rfl

theorem exec_ccf (s : State) : exec .ccf s = complementCarry s := rfl

/-! ### The two shapes of execution: A with a source, and a location read and written back -/

/-- The state an ALU operation leaves: A and the flags from its result, and the count. -/
def State.withAlu (n : Nat) (r : Alu8) (s : State) : State :=
  { s with regs := { s.regs with a := r.val }, f := r.f, cycles := n }

theorem aluOnA_reg (op : AluOp) (r : Reg8) (s : State) :
    aluOnA op (.reg r) s = .next (s.withAlu 4 (alu op s.regs.a (s.regs.get r) s.f)) := rfl

theorem aluOnA_imm (op : AluOp) (d8 : Byte) (s : State) :
    aluOnA op (.imm d8) s = .next (s.withAlu 8 (alu op s.regs.a d8 s.f)) := rfl

theorem aluOnA_indHl (op : AluOp) (s : State) :
    aluOnA op .indHl s =
      andThen (readByte s.hl s) fun r => .next (r.2.withAlu 8 (alu op r.2.regs.a r.1 r.2.f)) := rfl

theorem modifyLoc_reg (r : Reg8) (g : Byte → Flags → Alu8) (n : Nat) (s : State) :
    modifyLoc (.reg r) g n s =
      .next { s with
        regs := s.regs.set r (g (s.regs.get r) s.f).val
        f := (g (s.regs.get r) s.f).f
        cycles := n } := rfl

/-- On (HL): the store may be taken before the flags change, since a write does not look at them. -/
theorem modifyLoc_indHl {s w : State} {v : Byte} {g : Byte → Flags → Alu8} (n : Nat)
    (hv : peek (Config.freeByte s.draws) s.hl s = some v)
    (hw : writeByte s.hl (g v s.f).val { s with draws := s.draws + 1 } = .next w) :
    modifyLoc .indHl g n s = .next { w with f := (g v s.f).f, cycles := n } := by
  show andThen (readByte s.hl s) _ = _
  rw [readByte_of_peek hv, andThen_next]
  show andThen (writeByte s.hl (g v s.f).val { s with draws := s.draws + 1, f := (g v s.f).f }) (done n) = _
  rw [writeByte_flags (g v s.f).f hw]
  rfl

theorem modifyLoc_indHl_unmapped {s : State} (g : Byte → Flags → Alu8) (n : Nat) (h : mapped s.hl = false) :
    modifyLoc .indHl g n s = raise (.unimplementedAddress s.hl .read s.pc) s := by
  show andThen (readByte s.hl s) _ = _
  rw [readByte_unmapped s h, andThen_raise]

/-! ### The values and flags on exact integers (R249) -/

theorem ofInt_eq_zero_iff (x : Int) : BitVec.ofInt 8 x = 0#8 ↔ x % 256 = 0 := by
  rw [← BitVec.toNat_inj, BitVec.toNat_ofInt]
  show (x % 256).toNat = 0 ↔ x % 256 = 0
  omega

/-- The difference of bytes, with a borrow, is the exact difference taken modulo 256. -/
theorem sub_sub_bitNat (a v : Byte) (c : Bool) :
    a - v - BitVec.ofNat 8 (bitNat c) = BitVec.ofInt 8 ((a.toNat : Int) - v.toNat - bitNat c) := by
  simp only [Int.sub_eq_add_neg, BitVec.sub_eq_add_neg, BitVec.ofInt_add, BitVec.ofInt_neg, BitVec.ofInt_natCast,
    BitVec.ofNat_toNat, BitVec.setWidth_eq]

/-- `SUB` and `SBC` (R253, R254) on exact integers. -/
theorem aluSub_exact (a v : Byte) (c : Bool) :
    aluSub a v c =
      { val := BitVec.ofInt 8 ((a.toNat : Int) - v.toNat - bitNat c)
        f :=
          { z := decide (((a.toNat : Int) - v.toNat - bitNat c) % 256 = 0)
            n := true
            h := decide (a.toNat % 16 < v.toNat % 16 + bitNat c)
            c := decide (a.toNat < v.toNat + bitNat c) } } := by
  unfold aluSub nib
  simp only [sub_sub_bitNat, ofInt_eq_zero_iff]

/-- `SUB` (R253): `SBC` with no borrow. -/
theorem aluSub_exact_false (a v : Byte) :
    aluSub a v false =
      { val := BitVec.ofInt 8 ((a.toNat : Int) - v.toNat)
        f :=
          { z := decide (((a.toNat : Int) - v.toNat) % 256 = 0)
            n := true
            h := decide (a.toNat % 16 < v.toNat % 16)
            c := decide (a.toNat < v.toNat) } } := by
  have no_borrow : ((a.toNat : Int) - v.toNat - bitNat false) = (a.toNat : Int) - v.toNat := sub_zero _
  rw [aluSub_exact, no_borrow]
  rfl

/-- `INC` (R259) on exact integers. -/
theorem inc8_exact (o : Byte) (f : Flags) :
    inc8 o f =
      { val := BitVec.ofNat 8 (o.toNat + 1)
        f := { z := decide ((o.toNat + 1) % 256 = 0), n := false, h := decide (o.toNat % 16 = 0x0F), c := f.c } } := by
  have val : o + 1#8 = BitVec.ofNat 8 (o.toNat + 1) := by bv_omega
  have zero : BitVec.ofNat 8 (o.toNat + 1) = 0#8 ↔ (o.toNat + 1) % 256 = 0 := by bv_omega
  unfold inc8 nib
  simp only [val, zero]

/-- `DEC` (R261) on exact integers: the result is 0 only from 1. -/
theorem dec8_exact (o : Byte) (f : Flags) :
    dec8 o f =
      { val := BitVec.ofNat 8 (o.toNat + 255)
        f := { z := decide (o.toNat = 1), n := true, h := decide (o.toNat % 16 = 0x00), c := f.c } } := by
  have val : o - 1#8 = BitVec.ofNat 8 (o.toNat + 255) := by bv_omega
  have zero : BitVec.ofNat 8 (o.toNat + 255) = 0#8 ↔ o.toNat = 1 := by bv_omega
  unfold dec8 nib
  simp only [val, zero]

end Sys2Proof.Machine

namespace Sys2Proof.Claims

open Sys2Proof.Machine

/-! ### The operations in their operand forms (R250, R314) -/

/-- An operation of the 8-bit ALU runs as its value and flags say, since its three source forms differ only in the
read of the source. -/
theorem AluRuns.of_alu {op : AluOp} {res : Byte → State → Byte} {fl : Byte → State → Flags}
    (h : ∀ v s, alu op s.regs.a v s.f = { val := res v s, f := fl v s }) : AluRuns op res fl := by
  intro s
  refine ⟨fun r => ⟨encode_ofAlu_reg op r, ?_⟩, ⟨encode_ofAlu_indHl op, ?_⟩, fun d8 => ⟨encode_ofAlu_imm op d8, ?_⟩⟩
  · rw [exec_ofAlu, aluOnA_reg, h]
    rfl
  · refine .of_exec ((exec_ofAlu op .indHl s).trans (aluOnA_indHl op s)) fun v => ?_
    show Host.Outcome.next ({ s with draws := s.draws + 1 }.withAlu 8 (alu op s.regs.a v s.f)) = _
    rw [h]
    rfl
  · rw [exec_ofAlu, aluOnA_imm, h]
    rfl

/-- An instruction that reads and writes a location with `g` runs as `g`'s value and flags say. -/
theorem LocRuns.of_modifyLoc {mk : Loc → Instr} {bytes : Nat → List Byte} {g : Byte → Flags → Alu8}
    {res : Byte → Flags → Byte} {fl : Byte → Flags → Flags} {onReg onMem : Nat}
    (hb : ∀ l, encode (mk l) = bytes (locCode l))
    (he : ∀ l s, exec (mk l) s = modifyLoc l g (locCycles l onReg onMem) s)
    (hg : ∀ o f, g o f = { val := res o f, f := fl o f }) : LocRuns mk bytes res fl onReg onMem := by
  intro s
  refine ⟨fun r => ⟨hb (.reg r), ?_⟩, hb .indHl, fun hm => ?_, fun hm => ?_⟩
  · rw [he, modifyLoc_reg, hg]
    rfl
  · obtain ⟨v, hv⟩ := (mapped_iff_peek (Config.freeByte s.draws) s.hl s).1 hm
    obtain ⟨w, hw⟩ := writeByte_mapped (res v s.f) { s with draws := s.draws + 1 } hm
    have hx := modifyLoc_indHl (g := g) onMem hv (by rw [hg]; exact hw)
    rw [hg] at hx
    exact ⟨v, w, hv, hw, (he .indHl s).trans hx⟩
  · exact (he .indHl s).trans (modifyLoc_indHl_unmapped g onMem hm)

/-! ### Decimal adjust on numbers (R263) -/

theorem toNat_daaAdd (a : Byte) (f : Flags) : (daaAdd a f).1.toNat = adjusted a.toNat false f.h f.c := by
  unfold daaAdd adjusted nib
  simp only [Bool.or_eq_true, decide_eq_true_eq, apply_ite BitVec.toNat, BitVec.toNat_add, if_true]
  rfl

/-- The subtraction steps wrap below zero: 256 is added before each is taken off. -/
theorem toNat_daaSub (a : Byte) (f : Flags) : (daaSub a f).1.toNat = adjusted a.toNat true f.h f.c := by
  have high (x : Byte) : (x - 0x60#8).toNat = (x.toNat + 256 - 0x60) % 256 := by bv_omega
  have low (x : Byte) : (x - 0x06#8).toNat = (x.toNat + 256 - 0x06) % 256 := by bv_omega
  unfold daaSub adjusted
  simp only [apply_ite BitVec.toNat, high, low, Bool.true_eq_false, if_false]

theorem toNat_daa8 (a : Byte) (f : Flags) : (daa8 a f).val.toNat = adjusted a.toNat f.n f.h f.c := by
  unfold daa8
  cases f.n with
  | false => exact toNat_daaAdd a f
  | true => exact toNat_daaSub a f

/-- Only the addition adjust sets Cf, and neither adjust clears it. -/
theorem daa8_carry (a : Byte) (f : Flags) : (daa8 a f).f.c = (f.c || (!f.n && decide (a.toNat > 0x99))) := by
  unfold daa8
  cases f.n with
  | false => rfl
  | true => exact (Bool.or_false f.c).symm

theorem daa8_exact (a : Byte) (f : Flags) :
    daa8 a f =
      { val := BitVec.ofNat 8 (adjusted a.toNat f.n f.h f.c)
        f :=
          { z := decide (adjusted a.toNat f.n f.h f.c = 0)
            n := f.n
            h := false
            c := f.c || (!f.n && decide (a.toNat > 0x99)) } } := by
  have val : (daa8 a f).val = BitVec.ofNat 8 (adjusted a.toNat f.n f.h f.c) := by
    rw [← toNat_daa8, BitVec.ofNat_toNat, BitVec.setWidth_eq]
  have zero : BitVec.ofNat 8 (adjusted a.toNat f.n f.h f.c) = 0#8 ↔ adjusted a.toNat f.n f.h f.c = 0 := by
    rw [← val, BitVec.toNat_eq, toNat_daa8, BitVec.toNat_ofNat, Nat.zero_mod]
  calc daa8 a f
    _ = { val := (daa8 a f).val
          f := { z := decide ((daa8 a f).val = 0#8), n := f.n, h := false, c := (daa8 a f).f.c } } := rfl
    _ = _ := by simp only [val, zero, daa8_carry]

/-! ### The obligations -/

/-- Settles O11: `aluAdd` is written on the same sums, `ADD` being the case of no carry. -/
theorem addAndAddWithCarry : Obligations.AddAndAddWithCarry :=
  ⟨.of_alu fun _ _ => rfl, .of_alu fun _ _ => rfl⟩

/-- Settles O12: the model subtracts bytes, the statement takes integer differences modulo 256; `CP` is `SUB` with A
kept. -/
theorem subtractAndCompare : Obligations.SubtractAndCompare :=
  ⟨.of_alu fun v s => aluSub_exact_false s.regs.a v, .of_alu fun v s => aluSub_exact s.regs.a v s.f.c,
    .of_alu fun v s => congrArg (fun r : Alu8 => Alu8.mk s.regs.a r.f) (aluSub_exact_false s.regs.a v)⟩

/-- Settles O13: the statement writes out `aluAnd`, `aluXor` and `aluOr`, so only the operand forms are at stake. -/
theorem bitwiseLogic : Obligations.BitwiseLogic :=
  ⟨.of_alu fun _ _ => rfl, .of_alu fun _ _ => rfl, .of_alu fun _ _ => rfl⟩

/-- Settles O14: each location form is `modifyLoc` with `inc8` or `dec8`, taken on exact integers. -/
theorem incrementAndDecrementBytes : Obligations.IncrementAndDecrementBytes :=
  ⟨.of_modifyLoc encode_ofInc exec_ofInc inc8_exact, .of_modifyLoc encode_ofDec exec_ofDec dec8_exact⟩

/-- Settles O15: the byte steps of `daa8` are the numeric steps of `adjusted`. -/
theorem decimalAdjustSteps : Obligations.DecimalAdjustSteps := by
  intro s
  refine ⟨rfl, ?_⟩
  rw [exec_daa, decimalAdjust, daa8_exact]
  rfl

/-- Settles O17: the bitwise complement of a byte is its difference from 255. -/
theorem complementAndCarryFlag : Obligations.ComplementAndCarryFlag := by
  intro s
  have complement : ~~~s.regs.a = BitVec.ofNat 8 (255 - s.regs.a.toNat) := by bv_omega
  refine ⟨rfl, rfl, rfl, ?_, exec_scf s, exec_ccf s⟩
  rw [exec_cpl, ← complement]
  rfl

end Sys2Proof.Claims
end

section
/-! The pair increments and decrements of 42_alu16.md (R290, R291): the encoding and the meaning of each form over the four pairs, the step on numbers modulo 65536, and the obligation they settle. -/

namespace Sys2Proof.Machine

/-! ### The encoding and the meaning of each form, over its pair (30_encoding.md R184) -/

theorem encode_ofIncPair (p : Rp) : encode (.ofIncPair p) = [BitVec.ofNat 8 (0x03 + 16 * rpCode p)] := by
  cases p <;> rfl

theorem encode_ofDecPair (p : Rp) : encode (.ofDecPair p) = [BitVec.ofNat 8 (0x0B + 16 * rpCode p)] := by
  cases p <;> rfl

theorem exec_ofIncPair (p : Rp) (s : State) : exec (.ofIncPair p) s = incPair p s := by
  cases p <;> rfl

theorem exec_ofDecPair (p : Rp) (s : State) : exec (.ofDecPair p) s = decPair p s := by
  cases p <;> rfl

/-! ### The step on numbers modulo 65536 -/

theorem incPair_exact (p : Rp) (s : State) :
    incPair p s = done 8 (s.setPair p (BitVec.ofNat 16 ((s.pair p).toNat + 1))) := by
  have val : s.pair p + 1#16 = BitVec.ofNat 16 ((s.pair p).toNat + 1) := by bv_omega
  rw [incPair, val]

/-- One less modulo 65536 is 65535 more, so 0 wraps to 65535. -/
theorem decPair_exact (p : Rp) (s : State) :
    decPair p s = done 8 (s.setPair p (BitVec.ofNat 16 ((s.pair p).toNat + 65535))) := by
  have val : s.pair p - 1#16 = BitVec.ofNat 16 ((s.pair p).toNat + 65535) := by bv_omega
  rw [decPair, val]

end Sys2Proof.Machine

namespace Sys2Proof.Claims

open Sys2Proof.Machine

/-- Settles O18: each form writes its pair and the count alone; the word step is the step on numbers. -/
theorem incrementAndDecrementPairs : Obligations.IncrementAndDecrementPairs :=
  fun s p =>
    ⟨encode_ofIncPair p, encode_ofDecPair p, (exec_ofIncPair p s).trans (incPair_exact p s),
      (exec_ofDecPair p s).trans (decPair_exact p s)⟩

end Sys2Proof.Claims
end

section
/-! The rotates, shifts and bit operations of 43_rotate_shift_bit.md (R310-R325): the encoding and the meaning of each form, single bits as numbers, each operation on numbers, and the obligations they settle. -/

namespace Sys2Proof.Machine

/-! ### The encoding and the meaning of each form, over its operand fields (30_encoding.md R188) -/

theorem encode_ofShift (op : ShiftOp) (l : Loc) :
    encode (.ofShift op l) = [0xCB#8, BitVec.ofNat 8 (8 * shiftCode op + locCode l)] := by
  cases l with
  | reg r => cases op <;> cases r <;> rfl
  | indHl => cases op <;> rfl

theorem encode_ofBit_reg (b : Oct) (r : Reg8) :
    encode (.ofBit b (.reg r)) = [0xCB#8, BitVec.ofNat 8 (0x40 + 8 * b.val + regCode r)] := by
  cases b <;> cases r <;> rfl

theorem encode_ofBit_indHl (b : Oct) : encode (.ofBit b .indHl) = [0xCB#8, BitVec.ofNat 8 (0x46 + 8 * b.val)] := by
  cases b <;> rfl

theorem encode_ofRes (b : Oct) (l : Loc) :
    encode (.ofRes b l) = [0xCB#8, BitVec.ofNat 8 (0x80 + 8 * b.val + locCode l)] := by
  cases l with
  | reg r => cases b <;> cases r <;> rfl
  | indHl => cases b <;> rfl

theorem encode_ofSet (b : Oct) (l : Loc) :
    encode (.ofSet b l) = [0xCB#8, BitVec.ofNat 8 (0xC0 + 8 * b.val + locCode l)] := by
  cases l with
  | reg r => cases b <;> cases r <;> rfl
  | indHl => cases b <;> rfl

theorem exec_rlca (s : State) : exec .rlca s = rotateA .rlc s := rfl

theorem exec_rrca (s : State) : exec .rrca s = rotateA .rrc s := rfl

theorem exec_rla (s : State) : exec .rla s = rotateA .rl s := rfl

theorem exec_rra (s : State) : exec .rra s = rotateA .rr s := rfl

theorem exec_ofShift (op : ShiftOp) (l : Loc) (s : State) : exec (.ofShift op l) s = shiftLoc op l s := by
  cases l with
  | reg r => cases op <;> cases r <;> rfl
  | indHl => cases op <;> rfl

theorem exec_ofBit (b : Oct) (l : Loc) (s : State) : exec (.ofBit b l) s = testBit b l s := by
  cases l with
  | reg r => cases b <;> cases r <;> rfl
  | indHl => cases b <;> rfl

theorem exec_ofRes (b : Oct) (l : Loc) (s : State) : exec (.ofRes b l) s = clearBit b l s := by
  cases l with
  | reg r => cases b <;> cases r <;> rfl
  | indHl => cases b <;> rfl

theorem exec_ofSet (b : Oct) (l : Loc) (s : State) : exec (.ofSet b l) s = raiseBit b l s := by
  cases l with
  | reg r => cases b <;> cases r <;> rfl
  | indHl => cases b <;> rfl

/-! ### Single bits as numbers -/

theorem octVal_lt (b : Oct) : b.val < 8 := by cases b <;> decide

theorem bitNat_not (c : Bool) : bitNat (!c) = 1 - bitNat c := by cases c <;> rfl

theorem bitNat_le_one (c : Bool) : bitNat c ≤ 1 := by cases c <;> decide

theorem toNat_ofNat_bitNat (c : Bool) : (BitVec.ofNat 8 (bitNat c)).toNat = bitNat c := by cases c <;> rfl

/-- Bit `i` of a byte, read off its number. -/
theorem getLsbD_eq_decide (v : Byte) (i : Nat) : v.getLsbD i = decide (v.toNat / 2 ^ i % 2 = 1) :=
  Nat.testBit_eq_decide_div_mod_eq

theorem bitNat_getLsbD (v : Byte) (i : Nat) : bitNat (v.getLsbD i) = v.toNat / 2 ^ i % 2 := by
  rw [← Nat.toNat_testBit, BitVec.testBit_toNat]
  cases v.getLsbD i <;> rfl

theorem getLsbD_seven (v : Byte) : v.getLsbD 7 = decide (128 ≤ v.toNat) :=
  v.msb_eq_getLsbD_last.symm.trans v.msb_eq_decide

/-- The mask of bit `i` keeps the bit at its weight. -/
theorem toNat_and_twoPow (v : Byte) {i : Nat} (hi : i < 8) :
    (v &&& BitVec.twoPow 8 i).toNat = 2 ^ i * bitNat (v.getLsbD i) := by
  rw [BitVec.and_twoPow]
  cases v.getLsbD i with
  | false => rfl
  | true => exact (BitVec.toNat_twoPow_of_lt hi).trans (Nat.mul_one _).symm

/-- Where the first byte is a multiple of `2 ^ i` and the second is below it, no bit is set in both: their union is
their sum. -/
theorem toNat_or_of_lt {x y : Byte} {i q : Nat} (hx : x.toNat = 2 ^ i * q) (hy : y.toNat < 2 ^ i) :
    (x ||| y).toNat = x.toNat + y.toNat := by
  rw [BitVec.toNat_or, hx, Nat.two_pow_add_eq_or_of_lt hy]

/-! ### Rotates and shifts on numbers (R310-R322) -/

theorem toNat_shiftLeft_one (v : Byte) : (v <<< 1).toNat = 2 * (v.toNat % 128) := by
  rw [BitVec.toNat_shiftLeft, Nat.shiftLeft_eq]
  omega

theorem toNat_shiftRight_one (v : Byte) : (v >>> 1).toNat = v.toNat / 2 := by
  rw [BitVec.toNat_ushiftRight, Nat.shiftRight_eq_div_pow]

theorem toNat_bit_shiftLeft_seven (c : Bool) : (BitVec.ofNat 8 (bitNat c) <<< 7).toNat = 2 ^ 7 * bitNat c := by
  cases c <;> rfl

/-- A left shift with `c` brought into bit 0. -/
theorem toNat_shiftLeft_or_bit (v : Byte) (c : Bool) :
    ((v <<< 1) ||| BitVec.ofNat 8 (bitNat c)).toNat = (2 * v.toNat + bitNat c) % 256 := by
  have hc := bitNat_le_one c
  have low : (BitVec.ofNat 8 (bitNat c)).toNat < 2 ^ 1 := by
    rw [toNat_ofNat_bitNat]
    omega
  rw [toNat_or_of_lt (toNat_shiftLeft_one v) low, toNat_shiftLeft_one, toNat_ofNat_bitNat]
  omega

/-- A right shift with a byte `top` of bit 7 alone joined to it. -/
theorem toNat_shiftRight_or_top (v : Byte) {top : Byte} {n : Nat} (ht : top.toNat = 2 ^ 7 * n) :
    ((v >>> 1) ||| top).toNat = v.toNat / 2 + 128 * n := by
  have low : (v >>> 1).toNat < 2 ^ 7 := by
    rw [toNat_shiftRight_one]
    omega
  rw [BitVec.or_comm, toNat_or_of_lt ht low, toNat_shiftRight_one, ht, Nat.add_comm]
  rfl

/-- The nibbles exchanged (R321). -/
theorem toNat_swap (v : Byte) :
    (((v &&& 0x0F#8) <<< 4) ||| (v >>> 4)).toNat = 16 * (v.toNat % 16) + v.toNat / 16 := by
  have low : (v >>> 4).toNat = v.toNat / 16 := by
    rw [BitVec.toNat_ushiftRight, Nat.shiftRight_eq_div_pow]
  have nibble : (v &&& 0x0F#8).toNat = v.toNat % 16 := Nat.and_two_pow_sub_one_eq_mod v.toNat 4
  have high : ((v &&& 0x0F#8) <<< 4).toNat = 2 ^ 4 * (v.toNat % 16) := by
    rw [BitVec.toNat_shiftLeft, nibble, Nat.shiftLeft_eq]
    omega
  rw [toNat_or_of_lt high (by rw [low]; omega), high, low]
  rfl

end Sys2Proof.Machine

namespace Sys2Proof.Claims

open Sys2Proof.Machine

theorem toNat_shiftVal (op : ShiftOp) (v : Byte) (cf : Bool) :
    (shiftVal op v cf).1.toNat = shifted op v.toNat (bitNat cf) := by
  have bit7 : bitNat (v.getLsbD 7) = v.toNat / 128 := by
    rw [bitNat_getLsbD]
    omega
  have bit0 : bitNat (v.getLsbD 0) = v.toNat % 2 := by rw [bitNat_getLsbD, Nat.pow_zero, Nat.div_one]
  cases op with
  | rlc => exact (toNat_shiftLeft_or_bit v _).trans (by rw [bit7]; rfl)
  | rrc => exact (toNat_shiftRight_or_top v (toNat_bit_shiftLeft_seven _)).trans (by rw [bit0]; rfl)
  | rl => exact toNat_shiftLeft_or_bit v cf
  | rr => exact toNat_shiftRight_or_top v (toNat_bit_shiftLeft_seven cf)
  | sla => exact (toNat_shiftLeft_one v).trans (Nat.mul_mod_mul_left 2 v.toNat 128).symm
  | sra => exact (toNat_shiftRight_or_top v (toNat_and_twoPow v (by decide))).trans (by rw [bit7]; rfl)
  | swap => exact toNat_swap v
  | srl => exact toNat_shiftRight_one v

/-- The carry is bit 7 of a left shift, bit 0 of a right shift, and 0 for `SWAP`. -/
theorem shiftVal_carry (op : ShiftOp) (v : Byte) (cf : Bool) : (shiftVal op v cf).2 = shiftedOut op v.toNat := by
  have bit7 := getLsbD_seven v
  have bit0 : v.getLsbD 0 = decide (v.toNat % 2 = 1) := by rw [getLsbD_eq_decide, Nat.pow_zero, Nat.div_one]
  cases op with
  | rlc | rl | sla => exact bit7
  | rrc | rr | sra | srl => exact bit0
  | swap => rfl

theorem shiftVal_exact (op : ShiftOp) (v : Byte) (cf : Bool) :
    shiftVal op v cf = (BitVec.ofNat 8 (shifted op v.toNat (bitNat cf)), shiftedOut op v.toNat) := by
  rw [← toNat_shiftVal, ← shiftVal_carry op v cf, BitVec.ofNat_toNat, BitVec.setWidth_eq]

theorem shift8_exact (op : ShiftOp) (v : Byte) (f : Flags) :
    shift8 op v f =
      { val := BitVec.ofNat 8 (shifted op v.toNat (bitNat f.c))
        f :=
          { z := decide (shifted op v.toNat (bitNat f.c) = 0)
            n := false
            h := false
            c := shiftedOut op v.toNat } } := by
  have zero : (shiftVal op v f.c).1 = 0#8 ↔ shifted op v.toNat (bitNat f.c) = 0 := by
    rw [← toNat_shiftVal, BitVec.toNat_eq]
    rfl
  unfold shift8
  simp only [zero]
  rw [shiftVal_exact]

theorem rotateA_exact (op : ShiftOp) (s : State) :
    rotateA op s =
      .next { s with
        regs := { s.regs with a := BitVec.ofNat 8 (shifted op s.regs.a.toNat (bitNat s.f.c)) }
        f := { z := false, n := false, h := false, c := shiftedOut op s.regs.a.toNat }
        cycles := 4 } := by
  rw [rotateA, accRotate, shiftVal_exact]
  rfl

/-! ### One bit tested, cleared, set, on numbers (R323-R325) -/

theorem bitTest_exact (b : Oct) (v : Byte) (f : Flags) :
    bitTest b v f = { z := decide (v.toNat / 2 ^ b.val % 2 = 0), n := false, h := true, c := f.c } := by
  rw [bitTest, getLsbD_eq_decide, ← decide_not]
  simp only [Nat.mod_two_ne_one]

/-- A byte is what a mask drops and what it keeps. -/
theorem and_not_add_and (v m : Byte) : (v &&& ~~~m) + (v &&& m) = v := by
  have disjoint : (v &&& ~~~m) &&& (v &&& m) = 0#8 := by
    ext i
    simp +contextual
  rw [BitVec.add_eq_or_of_and_eq_zero _ _ disjoint, ← BitVec.and_or_distrib_left, BitVec.not_or_self,
    BitVec.and_allOnes]

/-- A union adds to the first byte the bits it lacks. -/
theorem or_eq_add_and_not (v m : Byte) : v ||| m = v + (~~~v &&& m) := by
  have disjoint : v &&& (~~~v &&& m) = 0#8 := by
    ext i
    simp +contextual
  have union : v ||| m = v ||| (~~~v &&& m) := by
    ext i
    simp only [BitVec.getElem_or, BitVec.getElem_and, BitVec.getElem_not, Bool.or_and_distrib_left,
      Bool.or_not_self, Bool.true_and]
  rw [union, BitVec.add_eq_or_of_and_eq_zero _ _ disjoint]

theorem resetBit_exact (b : Oct) (v : Byte) :
    resetBit b v = BitVec.ofNat 8 (v.toNat - 2 ^ b.val * (v.toNat / 2 ^ b.val % 2)) := by
  have split := and_not_add_and v (BitVec.twoPow 8 b.val)
  have kept := toNat_and_twoPow v (octVal_lt b)
  rw [bitNat_getLsbD] at kept
  have le : (v &&& BitVec.twoPow 8 b.val).toNat ≤ v.toNat := Nat.and_le_left
  rw [← kept]
  show v &&& ~~~(BitVec.twoPow 8 b.val) = _
  bv_omega

theorem setBit_exact (b : Oct) (v : Byte) :
    setBit b v = BitVec.ofNat 8 (v.toNat + 2 ^ b.val * (1 - v.toNat / 2 ^ b.val % 2)) := by
  have added : (~~~v &&& BitVec.twoPow 8 b.val).toNat = 2 ^ b.val * (1 - v.toNat / 2 ^ b.val % 2) := by
    rw [toNat_and_twoPow _ (octVal_lt b), BitVec.getLsbD_not, decide_eq_true (octVal_lt b), Bool.true_and, bitNat_not,
      bitNat_getLsbD]
  calc v ||| BitVec.twoPow 8 b.val
    _ = v + (~~~v &&& BitVec.twoPow 8 b.val) := or_eq_add_and_not v _
    _ = _ := by rw [← added]; bv_omega

/-! ### The obligations -/

/-- Settles O21: each location form is `modifyLoc` with `shift8`, taken on numbers. -/
theorem extendedRotatesAndShifts : Obligations.ExtendedRotatesAndShifts :=
  fun op => .of_modifyLoc (encode_ofShift op) (exec_ofShift op) (shift8_exact op)

/-- Settles O22: `BIT` is one read; `RES` and `SET` are `modifyLoc` with the flags kept, their masks taken on
numbers. -/
theorem bitTestResetAndSet : Obligations.BitTestResetAndSet := by
  intro b
  refine ⟨fun s => ⟨fun r => ⟨encode_ofBit_reg b r, ?_⟩, encode_ofBit_indHl b, ?_⟩, ?_, ?_⟩
  · rw [exec_ofBit, ← bitTest_exact]
    rfl
  · simp only [← bitTest_exact]
    exact .of_exec (exec_ofBit b .indHl s) fun _ => rfl
  · exact .of_modifyLoc (encode_ofRes b) (exec_ofRes b) fun o f => congrArg (Alu8.mk · f) (resetBit_exact b o)
  · exact .of_modifyLoc (encode_ofSet b) (exec_ofSet b) fun o f => congrArg (Alu8.mk · f) (setBit_exact b o)

/-- Settles O20: the accumulator rotates are the first four of R186's operations on A, with Z cleared. -/
theorem accumulatorRotates : Obligations.AccumulatorRotates := by
  intro s
  refine ⟨rfl, rfl, rfl, rfl, fun i op h => ?_⟩
  rw [← rotateA_exact]
  simp only [List.mem_cons, Prod.mk.injEq, List.not_mem_nil, or_false] at h
  obtain ⟨rfl, rfl⟩ | ⟨rfl, rfl⟩ | ⟨rfl, rfl⟩ | ⟨rfl, rfl⟩ := h
  · exact exec_rlca s
  · exact exec_rrca s
  · exact exec_rla s
  · exact exec_rra s

end Sys2Proof.Claims
end

section
/-! The jumps, calls and restarts of 44_control.md (R351-R357, R361): the encoding and the meaning of each form over its operand fields, the condition, the relative target, the shape of a push, and the obligations they settle. -/

namespace Sys2Proof.Machine

/-! ### The encoding of each form, over its operand fields (30_encoding.md R185, R187) -/

theorem encode_ofJp (cc : Cond) (a16 : Word) :
    encode (.ofJp cc a16) = [BitVec.ofNat 8 (0xC2 + 8 * condCode cc), loByte a16, hiByte a16] := by
  cases cc <;> rfl

theorem encode_ofJr (cc : Cond) (e : Byte) :
    encode (.ofJr cc e) = [BitVec.ofNat 8 (0x20 + 8 * condCode cc), e] := by
  cases cc <;> rfl

theorem encode_ofCall (cc : Cond) (a16 : Word) :
    encode (.ofCall cc a16) = [BitVec.ofNat 8 (0xC4 + 8 * condCode cc), loByte a16, hiByte a16] := by
  cases cc <;> rfl

theorem encode_ofRst (y : Oct) : encode (.ofRst y) = [BitVec.ofNat 8 (0xC7 + 8 * y.val)] := by
  cases y <;> rfl

/-! ### The meaning of each form, over its operand fields -/

theorem exec_jpA16 (a16 : Word) (s : State) : exec (.jpA16 a16) s = jumpTo a16 16 s := rfl

theorem exec_jpHl (s : State) : exec .jpHl s = jumpTo s.hl 4 s := rfl

theorem exec_jrE8 (e : Byte) (s : State) : exec (.jrE8 e) s = jumpTo (s.pc + sext16 e) 12 s := rfl

theorem exec_callA16 (a16 : Word) (s : State) : exec (.callA16 a16) s = callTo a16 24 s := rfl

theorem exec_ofJp (cc : Cond) (a16 : Word) (s : State) : exec (.ofJp cc a16) s = jumpIf cc a16 16 12 s := by
  cases cc <;> rfl

theorem exec_ofJr (cc : Cond) (e : Byte) (s : State) :
    exec (.ofJr cc e) s = jumpIf cc (s.pc + sext16 e) 12 8 s := by
  cases cc <;> rfl

theorem exec_ofCall (cc : Cond) (a16 : Word) (s : State) : exec (.ofCall cc a16) s = callIf cc a16 s := by
  cases cc <;> rfl

theorem exec_ofRst (y : Oct) (s : State) : exec (.ofRst y) s = callTo (BitVec.ofNat 16 (8 * y.val)) 16 s := by
  cases y <;> rfl

end Sys2Proof.Machine

namespace Sys2Proof.Claims

open Sys2Proof.Machine

/-! ### What a condition selects -/

/-- The model's test of a condition is the one R185 states. -/
theorem condHolds_iff_taken (cc : Cond) (f : Flags) : condHolds cc f = true ↔ Taken cc f := by
  cases cc with
  | nz => exact Iff.of_eq (Bool.not_eq_true' f.z)
  | z => exact Iff.rfl
  | nc => exact Iff.of_eq (Bool.not_eq_true' f.c)
  | c => exact Iff.rfl

section
variable {cc : Cond} {s : State}

theorem jumpIf_of_taken (h : Taken cc s.f) (target : Word) (m n : Nat) :
    jumpIf cc target m n s = jumpTo target m s := if_pos ((condHolds_iff_taken cc s.f).2 h)

theorem jumpIf_of_not_taken (h : ¬Taken cc s.f) (target : Word) (m n : Nat) : jumpIf cc target m n s = done n s :=
  if_neg (mt (condHolds_iff_taken cc s.f).1 h)

theorem callIf_of_taken (h : Taken cc s.f) (target : Word) : callIf cc target s = callTo target 24 s :=
  if_pos ((condHolds_iff_taken cc s.f).2 h)

theorem callIf_of_not_taken (h : ¬Taken cc s.f) (target : Word) : callIf cc target s = done 12 s :=
  if_neg (mt (condHolds_iff_taken cc s.f).1 h)

end

/-! ### The relative target, and the shape of a push -/

/-- Adding the sign-extended displacement as words is adding it as integers modulo 65536 (44_control.md R354). -/
theorem add_sext16_eq_relative (pc : Word) (e : Byte) : pc + sext16 e = relative pc e := by
  have hpc : BitVec.ofInt 16 (pc.toNat : Int) = pc := by
    rw [BitVec.ofInt_natCast, BitVec.ofNat_toNat, BitVec.setWidth_eq]
  rw [relative, BitVec.ofInt_add, hpc]
  rfl

/-- An answer that pushes `v` and goes on with `k` is of the shape `PushesThen`: its three cases are those of
`push16` (40_loads.md R222). -/
theorem PushesThen.of_push16 {answer : Out State} {s : State} {v : Word} {g : State → State} {k : State → Out State}
    (ha : answer = andThen (push16 v s) k) (hk : ∀ w, k w = .next (g w)) : PushesThen answer s v g := by
  refine ⟨fun high low => ?_, fun high => ?_, fun high low => ?_⟩
  · obtain ⟨w1, h1⟩ := writeByte_mapped (hiByte v) { s with sp := s.sp - 1#16 } high
    obtain ⟨w2, h2⟩ := writeByte_mapped (loByte v) { w1 with sp := s.sp - 2#16 } low
    exact ⟨w1, w2, h1, h2, by rw [ha, push16_eq h1 h2, andThen_next, hk]⟩
  · rw [ha, push16_high high]
    rfl
  · obtain ⟨w1, h1⟩ := writeByte_mapped (hiByte v) { s with sp := s.sp - 1#16 } high
    refine ⟨w1, h1, ?_⟩
    rw [ha, push16_low h1 low]
    rfl

/-- A call pushes PC, which is the address after its bytes (44_control.md R350), and jumps. -/
theorem callTo_pushes (target : Word) (n : Nat) (s : State) :
    PushesThen (callTo target n s) s s.pc fun t => { t with pc := target, cycles := n } :=
  .of_push16 (k := jumpTo target n) rfl fun _ => rfl

/-! ### The obligations -/

/-- Settles O25: each form taken is `callTo`, whose push has the three cases of `PushesThen`. -/
theorem callsAndRestarts : Obligations.CallsAndRestarts := by
  intro s a16
  refine ⟨rfl, ?_, fun y => ⟨encode_ofRst y, ?_⟩,
    fun cc => ⟨encode_ofCall cc a16, fun taken => ?_, fun skipped => ?_⟩⟩
  · rw [exec_callA16]
    exact callTo_pushes a16 24 s
  · rw [exec_ofRst]
    exact callTo_pushes (BitVec.ofNat 16 (8 * y.val)) 16 s
  · rw [exec_ofCall, callIf_of_taken taken]
    exact callTo_pushes a16 24 s
  · rw [exec_ofCall, callIf_of_not_taken skipped]
    rfl

/-- Settles O23: each form is `jumpTo` its target; the relative one is computed on integers. -/
theorem unconditionalJumps : Obligations.UnconditionalJumps := by
  intro s a16 e
  refine ⟨rfl, rfl, rfl, exec_jpA16 a16 s, exec_jpHl s, ?_⟩
  rw [exec_jrE8, add_sext16_eq_relative]
  rfl

/-- Settles O24: the condition selects the jump or only the count. -/
theorem conditionalJumps : Obligations.ConditionalJumps := by
  intro s cc a16 e
  refine ⟨encode_ofJp cc a16, encode_ofJr cc e, fun taken => ?_, fun skipped => ?_⟩
  · rw [exec_ofJp, exec_ofJr, add_sext16_eq_relative, jumpIf_of_taken taken, jumpIf_of_taken taken]
    exact ⟨rfl, rfl⟩
  · rw [exec_ofJp, exec_ofJr, jumpIf_of_not_taken skipped, jumpIf_of_not_taken skipped]
    exact ⟨rfl, rfl⟩

end Sys2Proof.Claims
end

section
/-! The decoder and the encoder against each other (30_encoding.md R180-R192): the fields of a byte, the opcode maps row by row, the lengths, and the obligations they settle. -/

namespace Sys2Proof.Machine

/-! ### The three fields of a byte (30_encoding.md R182), and the operands they number (R183-R188) -/

theorem byte_fields (v : Byte) :
    ∃ (x : Fin 4) (y z : Fin 8), v.toNat / 64 = x ∧ v.toNat / 8 % 8 = y ∧ v.toNat % 8 = z ∧
      BitVec.ofNat 8 (64 * x + 8 * y + z) = v := by
  have hv := v.isLt
  refine ⟨⟨v.toNat / 64, by omega⟩, ⟨v.toNat / 8 % 8, by omega⟩, ⟨v.toNat % 8, by omega⟩, rfl, rfl, rfl, ?_⟩
  dsimp only
  bv_omega

theorem locCode_locOf (k : Fin 8) : locCode (locOf k) = k := by decide +revert

theorem shiftCode_shiftOf (k : Fin 8) : shiftCode (shiftOf k) = k := by decide +revert

theorem val_octOf (k : Fin 8) : (octOf k).val = k := by decide +revert

theorem encode_ofBit (b : Oct) (l : Loc) :
    encode (.ofBit b l) = [0xCB#8, BitVec.ofNat 8 (0x40 + 8 * b.val + locCode l)] := by
  cases l with
  | reg r => exact encode_ofBit_reg b r
  | indHl => cases b <;> rfl

/-! ### Decoding, then encoding, row by row of the opcode maps (R189) -/

theorem encode_decodeCb (op2 : Byte) : encode (decodeCb op2) = [0xCB#8, op2] := by
  obtain ⟨x, y, z, hx, hy, hz, hop⟩ := byte_fields op2
  unfold decodeCb
  rw [hx, hy, hz, ← hop]
  match x with
  | 0 => simp [encode_ofShift, shiftCode_shiftOf, locCode_locOf]
  | 1 => simp [encode_ofBit, val_octOf, locCode_locOf]
  | 2 => simp [encode_ofRes, val_octOf, locCode_locOf]
  | 3 => simp [encode_ofSet, val_octOf, locCode_locOf]

/-- The bytes an instruction takes: its first byte and the operand bytes that byte asks for (R192). -/
def taken (op b1 b2 : Byte) : List Byte := [op, b1, b2].take (instrLength op)

theorem encode_decodeX0 (y z : Fin 8) (b1 b2 : Byte) :
    encode (decodeX0 y z b1 b2) = taken (BitVec.ofNat 8 (8 * y + z)) b1 b2 := by
  fin_cases z <;> fin_cases y <;>
    simp [taken, instrLength, twoByteOps, threeByteOps, decodeX0, condOf, rpOf, ptrOf, locOf, encode, Instr.ofJr,
      Instr.ofLdPair, Instr.ofAddHl, Instr.ofStPtr, Instr.ofLdPtr, Instr.ofIncPair, Instr.ofDecPair, Instr.ofInc,
      Instr.ofDec, Instr.ofLdImm]

theorem encode_decodeX1 (y z : Fin 8) (b1 b2 : Byte) :
    encode (decodeLd (locOf y) (locOf z)) = taken (BitVec.ofNat 8 (0x40 + 8 * y + z)) b1 b2 := by
  fin_cases z <;> fin_cases y <;> rfl

theorem encode_decodeX2 (y z : Fin 8) (b1 b2 : Byte) :
    encode (.ofAlu (aluOf y) (srcOf (locOf z))) = taken (BitVec.ofNat 8 (0x80 + 8 * y + z)) b1 b2 := by
  fin_cases z <;> fin_cases y <;> rfl

theorem encode_decodeX3 (y z : Fin 8) (b1 b2 : Byte) :
    encode (decodeX3 y z b1 b2) = taken (BitVec.ofNat 8 (0xC0 + 8 * y + z)) b1 b2 := by
  by_cases extended : y = 1 ∧ z = 3
  · obtain ⟨rfl, rfl⟩ := extended
    exact encode_decodeCb b1
  · fin_cases z <;> fin_cases y <;>
      simp [taken, instrLength, twoByteOps, threeByteOps, decodeX3, condOf, rp2Of, aluOf, octOf, encode, Instr.ofRet,
        Instr.ofPop, Instr.ofJp, Instr.ofCall, Instr.ofPush, Instr.ofAlu, Instr.ofRst] at extended ⊢

/-- Whatever bytes follow the first, the instruction read from them has the bytes it took. -/
theorem encode_decodeBytes (op b1 b2 : Byte) : encode (decodeBytes op b1 b2) = taken op b1 b2 := by
  obtain ⟨x, y, z, hx, hy, hz, hop⟩ := byte_fields op
  unfold decodeBytes
  rw [hx, hy, hz, ← hop]
  match x with
  | 0 => simpa using encode_decodeX0 y z b1 b2
  | 1 => exact encode_decodeX1 y z b1 b2
  | 2 => exact encode_decodeX2 y z b1 b2
  | 3 => exact encode_decodeX3 y z b1 b2

/-! ### The decoder -/

theorem instrLength_cases (op : Byte) : instrLength op = 1 ∨ instrLength op = 2 ∨ instrLength op = 3 := by
  unfold instrLength
  split
  · exact .inr (.inl rfl)
  · split
    · exact .inr (.inr rfl)
    · exact .inl rfl

/-- The lone byte 0xCB is the one list that decodes short of the bytes its first byte asks for. -/
theorem decode_eq_ok {bs : List Byte} {i : Instr} {rest : List Byte} (h : decode bs = .ok (i, rest)) :
    (bs = [0xCB#8] ∧ i = .prefixCb ∧ rest = []) ∨
      ∃ op b1 b2, i = decodeBytes op b1 b2 ∧ bs = taken op b1 b2 ++ rest := by
  match bs with
  | [] => cases h
  | [op] =>
    by_cases lone : op = 0xCB#8
    · subst lone
      cases h
      exact .inl ⟨rfl, rfl, rfl⟩
    · obtain len | len | len := instrLength_cases op <;> simp only [decode, if_neg lone, len] at h <;> cases h
      exact .inr ⟨op, 0#8, 0#8, rfl, by rw [taken, len]; rfl⟩
  | [op, b1] =>
    obtain len | len | len := instrLength_cases op <;> simp only [decode, len] at h <;> cases h
    · exact .inr ⟨op, 0#8, 0#8, rfl, by rw [taken, len]; rfl⟩
    · exact .inr ⟨op, b1, 0#8, rfl, by rw [taken, len]; rfl⟩
  | op :: b1 :: b2 :: bs =>
    obtain len | len | len := instrLength_cases op <;> simp only [decode, len] at h <;> cases h
    · exact .inr ⟨op, 0#8, 0#8, rfl, by rw [taken, len]; rfl⟩
    · exact .inr ⟨op, b1, 0#8, rfl, by rw [taken, len]; rfl⟩
    · exact .inr ⟨op, b1, b2, rfl, by rw [taken, len]; rfl⟩

/-- A list that holds the bytes its first byte asks for decodes to what `decodeBytes` reads from them. -/
theorem decode_of_length {op : Byte} {operands : List Byte} (h : instrLength op = operands.length + 1)
    (rest : List Byte) :
    decode (op :: operands ++ rest) = .ok (decodeBytes op (operands.getD 0 0#8) (operands.getD 1 0#8), rest) := by
  have notPrefix (h1 : instrLength op = 1) : op ≠ 0xCB#8 := by
    rintro rfl
    cases h1
  match operands, rest with
  | [], [] | [], [_] | [], _ :: _ :: _ | [_], [] | [_], _ :: _ | [_, _], _ => simp_all [decode]
  | _ :: _ :: _ :: _, _ => have := instrLength_cases op; simp only [List.length_cons] at h; omega

/-- Every whole instruction is what its own bytes read as. -/
theorem decodeBytes_encode {i : Instr} (h : i.wellFormed = true) :
    ∃ op operands, encode i = op :: operands ∧ instrLength op = operands.length + 1 ∧
      decodeBytes op (operands.getD 0 0#8) (operands.getD 1 0#8) = i := by
  cases i with
  | prefixCb => cases h
  | ldBcD16 v | ldIndA16Sp v | ldDeD16 v | ldHlD16 v | ldSpD16 v | jpNzA16 v | jpA16 v | callNzA16 v | jpZA16 v
  | callZA16 v | callA16 v | jpNcA16 v | callNcA16 v | jpCA16 v | callCA16 v | ldIndA16A v | ldAIndA16 v =>
    exact ⟨_, _, rfl, rfl, congrArg _ (wordOf_halves v)⟩
  | _ => exact ⟨_, _, rfl, rfl, rfl⟩

end Sys2Proof.Machine

namespace Sys2Proof.Claims

open Sys2Proof.Machine

/-- Settles O33: the bytes of `i` are as many as their first byte asks for, and read as `i`. -/
theorem decodeOfEncode : Obligations.DecodeOfEncode := by
  intro i rest h
  obtain ⟨op, operands, hi, hlen, hdec⟩ := decodeBytes_encode h
  rw [hi, decode_of_length hlen, hdec]

/-- Settles O34: the three lengths are the three branches of the decoder, and what is taken is what is encoded. -/
theorem everyByteSequenceDecodes : Obligations.EveryByteSequenceDecodes := by
  refine ⟨fun op b1 b2 rest => ?_, fun bs i rest h => ?_⟩
  · obtain len | len | len := instrLength_cases op
    · exact ⟨decodeBytes op 0 0, by simp only [decode, len]; rfl⟩
    · exact ⟨decodeBytes op b1 0, by simp only [decode, len]; rfl⟩
    · exact ⟨decodeBytes op b1 b2, by simp only [decode, len]; rfl⟩
  · obtain ⟨rfl, rfl, rfl⟩ | ⟨op, b1, b2, rfl, rfl⟩ := decode_eq_ok h
    · rfl
    · rw [encode_decodeBytes]

end Sys2Proof.Claims
end

section
/-! The invariant of a running core (Safety.lean `State.Inv`) through the parts of a step (60_exceptions.md R450), and the obligation it settles. -/

namespace Sys2Proof.Machine

/-- The invariant reads the memories, the StorageController, the divider's accumulator, `halted`, `stopped` and the
fault record, and nothing else. -/
theorem State.Inv.of_same {s t : State} (h : s.Inv) (hram : t.ram = s.ram) (hcart : t.cart = s.cart)
    (hdiv : t.timer.divAcc < 256) (hsleep : ¬(t.halted = true ∧ t.stopped = true)) (hfault : t.fault = none) :
    t.Inv where
  ramWf := hram ▸ h.ramWf
  ramKeys := hram ▸ h.ramKeys
  cramWf := hcart ▸ h.cramWf
  cramKeys := hcart ▸ h.cramKeys
  romWf := hcart ▸ h.romWf
  romMin := hcart ▸ h.romMin
  romMax := hcart ▸ h.romMax
  romLow := hcart ▸ h.romLow
  romMode := hcart ▸ h.romMode
  divAcc := hdiv
  oneSleep := hsleep
  noFault := hfault

/-- A state that differs only elsewhere has the invariant too. -/
theorem State.Inv.congr {s t : State} (h : s.Inv) (hram : t.ram = s.ram := by rfl) (hcart : t.cart = s.cart := by rfl)
    (hdiv : t.timer.divAcc = s.timer.divAcc := by rfl) (hhalted : t.halted = s.halted := by rfl)
    (hstopped : t.stopped = s.stopped := by rfl) (hfault : t.fault = s.fault := by rfl) : t.Inv :=
  h.of_same hram hcart (hdiv ▸ h.divAcc) (by rw [hhalted, hstopped]; exact h.oneSleep) (hfault ▸ h.noFault)

/-- A service step only wakes, or dispatches from an awake core, whose push is two stores. -/
theorem service_inv {s : State} {r : Nat × State} (h : service s = .next r) (hs : s.Inv) : r.2.Inv := by
  obtain ⟨w, hr, hw⟩ := service_next h
  have hwInv : w.Inv := by
    obtain ⟨_, e, halted, stopped⟩ | ⟨_, _, k, e⟩ := hw
    · rw [e]
      exact hs.of_same rfl rfl hs.divAcc (fun b => hs.oneSleep ⟨halted b.1, stopped b.2⟩) hs.noFault
    · obtain ⟨x, pushed, rfl⟩ := dispatchIrq_next e
      have woken := hs.of_same (t := { s with
        intFlag := s.intFlag &&& ~~~k.mask, ime := false, imePending := .none, halted := false, stopped := false })
        rfl rfl hs.divAcc nofun hs.noFault
      have hx := (closed_inv (pushSlots _)).push16 (fun _ ha => ha) woken pushed
      exact hx.congr
  rw [hr, applyClearPolicy_shape]
  exact hwInv.congr

/-- An instruction of an awake core keeps the invariant: `HALT` and `STOP` set one of the two flags. -/
theorem exec_inv {i : Instr} {s t : State} (h : exec i s = .next t) (hs : s.Inv) (halted : s.halted = false)
    (stopped : s.stopped = false) : t.Inv := by
  by_cases hc : controls i = true
  · obtain rfl | rfl | rfl | rfl | ⟨v, rfl⟩ := controls_cases hc
    · cases h
      exact hs.congr
    · cases h
      exact hs.congr
    · obtain ⟨lo, hi, _, _, rfl⟩ := reti_next h
      exact hs.congr
    · rw [halt_next h]
      exact hs.of_same rfl rfl hs.divAcc (fun b => by simp [stopped] at b) hs.noFault
    · cases h
      exact hs.of_same rfl rfl (Nat.zero_lt_succ _) (fun b => by simp [halted] at b) hs.noFault
  · obtain ⟨u, n, hu, _, rfl⟩ := exec_keeps (closed_inv _) (by simpa using hc) hs h
    exact hu.congr

theorem tickDivider_inv (c : Nat) {s : State} (hs : s.Inv) : (tickDivider c s).Inv :=
  hs.of_same rfl rfl (Nat.mod_lt _ (by decide)) hs.oneSleep hs.noFault

theorem idle_inv {s : State} (hs : s.Inv) : (idle s).Inv := by
  have counted : ({ s with cycles := 4 } : State).Inv := hs.congr
  unfold idle
  dsimp only
  split
  · exact tickDivider_inv 4 counted
  · exact counted

theorem runOrIdle_inv {u v : State} (h : runOrIdle u = .next v) (hu : u.Inv) : v.Inv := by
  obtain ⟨halted, stopped, i, n, w, hw, rfl⟩ | ⟨_, rfl⟩ := runOrIdle_next h
  · refine tickDivider_inv _ (exec_inv hw ?_ halted stopped)
    exact hu.congr
  · exact idle_inv hu

end Sys2Proof.Machine

namespace Sys2Proof.Claims

open Sys2Proof.Machine

/-- Settles O59: each part of a step keeps the invariant, and what stands around the parts touches nothing it reads. -/
theorem everyStepKeepsTheInvariant : Obligations.EveryStepKeepsTheInvariant := by
  intro s t hs h
  obtain ⟨_, ⟨_, rfl⟩ | ⟨_, r, v, serviced, ran, rfl⟩⟩ := step_next h
  · exact hs.congr
  · have begun : (applyPending (beginFrame s)).Inv :=
      hs.congr (by simp) (by simp) (by simp) (by simp) (by simp) (by simp)
    have hv := runOrIdle_inv ran (service_inv serviced begun)
    rw [endIteration_shape]
    exact hv.congr

end Sys2Proof.Claims
end

section
/-! The stack (40_loads.md R220, R222-R227; 44_control.md R358-R360; 60_exceptions.md R425): the encoding and the meaning of each form, the three cases of a pop and of a stored word, a push and a pop through plain storage, and the obligations they settle. -/

namespace Sys2Proof.Machine

/-! ### The encoding and the meaning of each form, over its operand fields (30_encoding.md R184, R185) -/

theorem encode_ofPush (p : Rp2) : encode (.ofPush p) = [BitVec.ofNat 8 (0xC5 + 16 * rp2Code p)] := by
  cases p <;> rfl

theorem encode_ofPop (p : Rp2) : encode (.ofPop p) = [BitVec.ofNat 8 (0xC1 + 16 * rp2Code p)] := by
  cases p <;> rfl

theorem encode_ofRet (cc : Cond) : encode (.ofRet cc) = [BitVec.ofNat 8 (0xC0 + 8 * condCode cc)] := by
  cases cc <;> rfl

theorem exec_ldIndA16Sp (a16 : Word) (s : State) : exec (.ldIndA16Sp a16) s = storeSp a16 s := rfl

theorem exec_ofPush (p : Rp2) (s : State) : exec (.ofPush p) s = push p s := by
  cases p <;> rfl

theorem exec_ofPop (p : Rp2) (s : State) : exec (.ofPop p) s = pop p s := by
  cases p <;> rfl

theorem exec_ret (s : State) : exec .ret s = returnTo 16 s := rfl

theorem exec_reti (s : State) : exec .reti s = andThen (returnFromIrq s) (done 16) := rfl

theorem exec_ofRet (cc : Cond) (s : State) : exec (.ofRet cc) s = returnIf cc s := by
  cases cc <;> rfl

/-! ### A word stored (00_scope.md R15), and a sequence that ends -/

theorem andThen_next_right {α : Type} (r : Out α) : andThen r .next = r := by
  cases r <;> rfl


theorem writeWord_eq {a v : Word} {s w1 w2 : State} (h1 : writeByte a (loByte v) s = .next w1)
    (h2 : writeByte (a + 1#16) (hiByte v) w1 = .next w2) : writeWord a v s = .next w2 := by
  rw [writeWord, h1, andThen_next, h2]

theorem writeWord_low {a : Word} (v : Word) (s : State) (h : mapped a = false) :
    writeWord a v s = raise (.unimplementedAddress a .write s.pc) s := by
  rw [writeWord, writeByte_unmapped _ _ h, andThen_raise]

theorem writeWord_high {a v : Word} {s w1 : State} (h1 : writeByte a (loByte v) s = .next w1)
    (h2 : mapped (a + 1#16) = false) :
    writeWord a v s = raise (.unimplementedAddress (a + 1#16) .write w1.pc) w1 := by
  rw [writeWord, h1, andThen_next, writeByte_unmapped _ _ h2]

end Sys2Proof.Machine

namespace Sys2Proof.Claims

open Sys2Proof.Machine

/-- An instruction that pops a word and goes on with `k` is of the shape `PopsThen`: its three cases are those of
`pop16` (40_loads.md R223). -/
theorem PopsThen.of_pop16 {i : Instr} {s : State} {g : Word → State → State} {k : Word × State → Out State}
    (hi : exec i s = andThen (pop16 s) k) (hk : ∀ v t, k (v, t) = .next (g v t)) : PopsThen i s g := by
  refine ⟨fun low high => ?_, fun low => ?_, fun low high => ?_⟩
  · obtain ⟨lo, hlo⟩ := (mapped_iff_peek (Config.freeByte s.draws) _ s).1 low
    obtain ⟨hi', hhi⟩ := (mapped_iff_peek (Config.freeByte (s.draws + 1)) _ s).1 high
    exact ⟨lo, hi', hlo, hhi, by rw [hi, pop16_eq hlo hhi, andThen_next, hk]⟩
  · rw [hi, pop16_low low]
    rfl
  · obtain ⟨lo, hlo⟩ := (mapped_iff_peek (Config.freeByte s.draws) _ s).1 low
    rw [hi, pop16_high hlo high]
    rfl

/-- The flag byte of R42 written out is the one the model stores. -/
theorem ofNat_flagByte (f : Flags) : BitVec.ofNat 8 (flagByte f) = f.toByte := by
  unfold flagByte Flags.toByte
  simp only [Nat.mul_comm]

section
variable {cc : Cond} {s : State}

theorem returnIf_of_taken (h : Taken cc s.f) : returnIf cc s = returnTo 20 s :=
  if_pos ((condHolds_iff_taken cc s.f).2 h)

theorem returnIf_of_not_taken (h : ¬Taken cc s.f) : returnIf cc s = done 8 s :=
  if_neg (mt (condHolds_iff_taken cc s.f).1 h)

end

/-- The flags a word popped into AF leaves, read off the word (R227). -/
theorem ofByte_loByte (v : Word) :
    Flags.ofByte (loByte v) = { z := v.getLsbD 7, n := v.getLsbD 6, h := v.getLsbD 5, c := v.getLsbD 4 } := by
  unfold Flags.ofByte loByte
  simp only [BitVec.getLsbD_extractLsb']
  rfl

/-! ### A push and a pop through plain storage (R222, R223) -/

/-- The two stack bytes of a push are two bytes, under whichever of their addresses (20_memory.md R107). -/
theorem ramKey_pushSlots_ne {sp : Word} (low : plainRam (sp - 2#16) = true) :
    ramKey (sp - 1#16) ≠ ramKey (sp - 2#16) := by
  unfold plainRam at low
  simp only [Bool.or_eq_true, Bool.and_eq_true, decide_eq_true_eq] at low
  have succ : (sp - 1#16).toNat = (sp - 2#16).toNat + 1 := by
    have below : (sp - 2#16).toNat ≠ 65535 := by omega
    clear low
    bv_omega
  unfold ramKey
  rw [succ]
  split <;> split <;> omega

/-- Through plain storage a push lists the two bytes and moves SP. -/
theorem push16_plainRam (v : Word) {s : State} (high : plainRam (s.sp - 1#16) = true)
    (low : plainRam (s.sp - 2#16) = true) :
    push16 v s =
      .next { s with
        sp := s.sp - 2#16
        ram := memSet (ramKey (s.sp - 2#16)) (loByte v) (memSet (ramKey (s.sp - 1#16)) (hiByte v) s.ram) } :=
  push16_eq (writeByte_plainRam _ _ high) (writeByte_plainRam _ _ low)

/-! ### The obligations -/

/-- Settles O7: the instruction is `writeWord` of SP, whose three cases are those of its two stores. -/
theorem storeStackPointerLowByteFirst : Obligations.StoreStackPointerLowByteFirst := by
  intro s a16
  refine ⟨rfl, fun low high => ?_, fun low => ?_, fun low high => ?_⟩
  · obtain ⟨w1, h1⟩ := writeByte_mapped (loByte s.sp) s low
    obtain ⟨w2, h2⟩ := writeByte_mapped (hiByte s.sp) w1 high
    exact ⟨w1, w2, h1, h2, by rw [exec_ldIndA16Sp, storeSp, writeWord_eq h1 h2]; rfl⟩
  · rw [exec_ldIndA16Sp, storeSp, writeWord_low _ _ low]
    rfl
  · obtain ⟨w1, h1⟩ := writeByte_mapped (loByte s.sp) s low
    refine ⟨w1, h1, ?_⟩
    rw [exec_ldIndA16Sp, storeSp, writeWord_high h1 high]
    rfl

/-- Settles O8: each form pushes its pair, AF being A and the flag byte. -/
theorem pushInstructions : Obligations.PushInstructions := by
  intro s
  have pushes (p : Rp2) : PushesThen (exec (.ofPush p) s) s (s.pair2 p) fun t => { t with cycles := 16 } :=
    .of_push16 (exec_ofPush p s) fun _ => rfl
  refine ⟨encode_ofPush, pushes .bc, pushes .de, pushes .hl, ?_⟩
  rw [ofNat_flagByte]
  exact pushes .af

/-- Settles O9: each form pops a word into its pair; F takes the bits 7..4 of the low byte. -/
theorem popInstructions : Obligations.PopInstructions := by
  intro s
  refine ⟨encode_ofPop, ?_, ?_, ?_, ?_⟩
  · exact .of_pop16 (exec_ofPop .bc s) fun _ _ => rfl
  · exact .of_pop16 (exec_ofPop .de s) fun _ _ => rfl
  · exact .of_pop16 (exec_ofPop .hl s) fun _ _ => rfl
  · refine .of_pop16 (exec_ofPop .af s) fun v t => ?_
    rw [← ofByte_loByte]
    rfl

/-- Settles O10: the low byte is stored last, and the high byte under another key, so both read back. -/
theorem pushOrderAndPushPopRoundTrip : Obligations.PushOrderAndPushPopRoundTrip := by
  intro s v
  refine ⟨.of_push16 (andThen_next_right _).symm fun _ => rfl, fun high low => ?_⟩
  rw [push16_plainRam v high low]
  refine ⟨_, rfl, rfl, ?_⟩
  dsimp only
  have up1 : s.sp - 2#16 + 1#16 = s.sp - 1#16 := by bv_omega
  have up2 : s.sp - 2#16 + 2#16 = s.sp := by bv_omega
  set w : State := { s with
    sp := s.sp - 2#16
    ram := memSet (ramKey (s.sp - 2#16)) (loByte v) (memSet (ramKey (s.sp - 1#16)) (hiByte v) s.ram) }
  have lowRead (d : Byte) : peek d (s.sp - 2#16) w = some (loByte v) := by
    rw [peek_plainRam low, ramGet_memSet, if_pos rfl]
  have highRead (d : Byte) : peek d (s.sp - 2#16 + 1#16) w = some (hiByte v) := by
    rw [up1, peek_plainRam high, ramGet_memSet, if_neg (ramKey_pushSlots_ne low), ramGet_memSet, if_pos rfl]
  refine ⟨lowRead, highRead, ?_⟩
  have popped := pop16_eq (s := w) (lowRead _) (highRead _)
  rw [wordOf_halves, show w.sp + 2#16 = s.sp from up2] at popped
  exact popped

/-- Settles O26: each form taken pops the word that becomes PC. -/
theorem returns : Obligations.Returns := by
  intro s
  refine ⟨rfl, rfl, ?_, ?_, fun cc => ⟨encode_ofRet cc, fun taken => ?_, fun skipped => ?_⟩⟩
  · exact .of_pop16 (exec_ret s) fun _ _ => rfl
  · exact .of_pop16 ((exec_reti s).trans (andThen_assoc ..)) fun _ _ => rfl
  · exact .of_pop16 ((exec_ofRet cc s).trans (returnIf_of_taken taken)) fun _ _ => rfl
  · rw [exec_ofRet, returnIf_of_not_taken skipped]
    rfl

/-- Settles O50: a dispatch is a push of PC in the state the clears leave. -/
theorem dispatchPushesPcAndVectors : Obligations.DispatchPushesPcAndVectors :=
  fun k _ => ⟨by cases k <;> decide, .of_push16 rfl fun _ => rfl⟩

end Sys2Proof.Claims
end

section
/-! Decimal sums through DAA (41_alu8.md R251, R253, R263) and the 16-bit sums of 42_alu16.md (R292-R294): digits, sums on numbers, and the obligations they settle. -/

namespace Sys2Proof.Machine

/-! ### The encoding and the meaning of each form (30_encoding.md R184, R187) -/

theorem encode_ofAddHl (p : Rp) : encode (.ofAddHl p) = [BitVec.ofNat 8 (0x09 + 16 * rpCode p)] := by
  cases p <;> rfl

theorem exec_ofAddHl (p : Rp) (s : State) : exec (.ofAddHl p) s = addHl p s := by
  cases p <;> rfl

theorem exec_addSpE8 (e : Byte) (s : State) : exec (.addSpE8 e) s = addSp e s := rfl

theorem exec_ldHlSpE8 (e : Byte) (s : State) : exec (.ldHlSpE8 e) s = ldHlSpDisp e s := rfl

end Sys2Proof.Machine

namespace Sys2Proof.Claims

open Sys2Proof.Machine

/-! ### Decimal adjust on decimal digits (41_alu8.md R251, R253, R263) -/

theorem toNat_bcd {n : Nat} (h : n < 100) : (bcd n).toNat = 16 * (n / 10) + n % 10 := by
  unfold bcd
  rw [BitVec.toNat_ofNat]
  omega

section
variable {a b c d : Nat} (ha : a < 10) (hb : b < 10) (hc : c < 10) (hd : d < 10)
include ha hb hc hd

/-- The addition adjust of the sum of the digits `a b` and `c d`, under the carries that sum leaves. -/
theorem adjusted_sum :
    adjusted ((16 * a + b + (16 * c + d)) % 256) false (decide (b + d > 15)) (decide (16 * a + b + (16 * c + d) > 255)) =
      16 * ((a + c + (b + d) / 10) % 10) + (b + d) % 10 := by
  unfold adjusted
  simp only [if_true, decide_eq_true_eq]
  split <;> split <;> omega

/-- The addition adjust sets Cf where the digits' sum has a third digit. -/
theorem sum_carries_iff :
    16 * a + b + (16 * c + d) > 255 ∨ (16 * a + b + (16 * c + d)) % 256 > 0x99 ↔ 100 ≤ 10 * a + b + (10 * c + d) := by
  omega

/-- The subtraction adjust of the difference of the digits `a b` and `c d`, under the borrows it leaves. -/
theorem adjusted_difference :
    adjusted ((16 * a + b + 256 - (16 * c + d)) % 256) true (decide (b < d)) (decide (16 * a + b < 16 * c + d)) =
      16 * ((a + 10 - c - if b < d then 1 else 0) % 10) + (b + 10 - d) % 10 := by
  unfold adjusted
  simp only [Bool.true_eq_false, if_false, decide_eq_true_eq]
  split <;> split <;> omega

end

section
variable {m n : Nat} (hm : m < 100) (hn : n < 100)
include hm hn

theorem digits_lt : m / 10 < 10 ∧ m % 10 < 10 ∧ n / 10 < 10 ∧ n % 10 < 10 := by omega

/-- `ADD`, then `DAA`: the decimal sum and its carry. -/
theorem daa8_aluAdd_bcd :
    (daa8 (aluAdd (bcd m) (bcd n) false).val (aluAdd (bcd m) (bcd n) false).f).val = bcd ((m + n) % 100) ∧
    (daa8 (aluAdd (bcd m) (bcd n) false).val (aluAdd (bcd m) (bcd n) false).f).f.c = decide (100 ≤ m + n) := by
  obtain ⟨ha, hb, hc, hd⟩ := digits_lt hm hn
  have nibbles : (16 * (m / 10) + m % 10) % 16 = m % 10 ∧ (16 * (n / 10) + n % 10) % 16 = n % 10 := by omega
  refine ⟨BitVec.eq_of_toNat_eq ?_, ?_⟩
  · rw [toNat_daa8, toNat_bcd (Nat.mod_lt _ (by decide))]
    simp only [aluAdd, nib, toNat_bcd hm, toNat_bcd hn, bitNat, BitVec.toNat_ofNat, nibbles, Bool.false_eq_true,
      if_false, Nat.add_zero]
    have tens : (m / 10 + n / 10 + (m % 10 + n % 10) / 10) % 10 = (m + n) % 100 / 10 := by omega
    have units : (m % 10 + n % 10) % 10 = (m + n) % 100 % 10 := by omega
    rw [adjusted_sum ha hb hc hd, tens, units]
  · rw [daa8_carry]
    simp only [aluAdd, toNat_bcd hm, toNat_bcd hn, bitNat, BitVec.toNat_ofNat, Bool.not_false, Bool.true_and,
      ← Bool.decide_or, Bool.false_eq_true, if_false, Nat.add_zero, decide_eq_decide]
    rw [sum_carries_iff ha hb hc hd, Nat.div_add_mod, Nat.div_add_mod]

/-- `SUB`, then `DAA`: the decimal difference and its borrow. -/
theorem daa8_aluSub_bcd :
    (daa8 (aluSub (bcd m) (bcd n) false).val (aluSub (bcd m) (bcd n) false).f).val = bcd ((m + 100 - n) % 100) ∧
    (daa8 (aluSub (bcd m) (bcd n) false).val (aluSub (bcd m) (bcd n) false).f).f.c = decide (m < n) := by
  obtain ⟨ha, hb, hc, hd⟩ := digits_lt hm hn
  have nibbles : (16 * (m / 10) + m % 10) % 16 = m % 10 ∧ (16 * (n / 10) + n % 10) % 16 = n % 10 := by omega
  refine ⟨BitVec.eq_of_toNat_eq ?_, ?_⟩
  · rw [toNat_daa8, toNat_bcd (Nat.mod_lt _ (by decide)), aluSub_exact_false]
    simp only [toNat_bcd hm, toNat_bcd hn, nibbles]
    have val : (BitVec.ofInt 8 (((16 * (m / 10) + m % 10 : Nat) : Int) - (16 * (n / 10) + n % 10 : Nat))).toNat =
        (16 * (m / 10) + m % 10 + 256 - (16 * (n / 10) + n % 10)) % 256 := by
      rw [BitVec.toNat_ofInt]
      omega
    rw [val, adjusted_difference ha hb hc hd]
    split <;> omega
  · rw [daa8_carry, aluSub_exact_false]
    simp only [toNat_bcd hm, toNat_bcd hn, Bool.not_true, Bool.false_and, Bool.or_false, decide_eq_decide]
    omega

end

/-- An ALU operation on an immediate, then `DAA`, on A and Cf. -/
theorem exec_ofAlu_daa (op : AluOp) (v : Byte) (s : State) :
    ∃ t u, exec (.ofAlu op (.imm v)) s = .next t ∧ exec .daa t = .next u ∧
      u.regs.a = (daa8 (alu op s.regs.a v s.f).val (alu op s.regs.a v s.f).f).val ∧
      u.f.c = (daa8 (alu op s.regs.a v s.f).val (alu op s.regs.a v s.f).f).f.c :=
  ⟨_, _, (exec_ofAlu op (.imm v) s).trans (aluOnA_imm op v s), exec_daa _, rfl, rfl⟩

/-! ### 16-bit sums (42_alu16.md) -/

/-- `ADD HL,rr` (R292) on numbers. -/
theorem add16_exact (h v : Word) (f : Flags) :
    add16 h v f =
      { val := BitVec.ofNat 16 (h.toNat + v.toNat)
        f :=
          { z := f.z
            n := false
            h := decide (h.toNat % 0x1000 + v.toNat % 0x1000 > 0x0FFF)
            c := decide (h.toNat + v.toNat > 0xFFFF) } } := by
  have val : h + v = BitVec.ofNat 16 (h.toNat + v.toNat) := by bv_omega
  rw [add16, val]

/-- SP and a displacement (R293, R294) on numbers. -/
theorem addSpDisp_exact (sp : Word) (e : Byte) :
    addSpDisp sp e =
      { val := relative sp e
        f :=
          { z := false
            n := false
            h := decide (sp.toNat % 16 + e.toNat % 16 > 0x0F)
            c := decide (sp.toNat % 256 + e.toNat > 0xFF) } } := by
  rw [addSpDisp, add_sext16_eq_relative, nib]

/-! ### The obligations -/

/-- Settles O16: `ADD` and `SUB` leave the digits' sum or difference with its carries, and `DAA` makes it decimal. -/
theorem decimalAdjustMakesDecimalSums : Obligations.DecimalAdjustMakesDecimalSums := by
  intro s m n hm hn ha
  obtain ⟨t, u, added, adjusted, a, c⟩ := exec_ofAlu_daa .add (bcd n) s
  obtain ⟨t', u', subtracted, adjusted', a', c'⟩ := exec_ofAlu_daa .sub (bcd n) s
  rw [ha] at a c a' c'
  exact ⟨⟨t, u, added, adjusted, a.trans (daa8_aluAdd_bcd hm hn).1, c.trans (daa8_aluAdd_bcd hm hn).2⟩,
    ⟨t', u', subtracted, adjusted', a'.trans (daa8_aluSub_bcd hm hn).1, c'.trans (daa8_aluSub_bcd hm hn).2⟩⟩

/-- Settles O19: the word sums are the sums on numbers, and the displacement is added on integers. -/
theorem sixteenBitAdds : Obligations.SixteenBitAdds := by
  intro s
  refine ⟨fun p => ⟨encode_ofAddHl p, ?_⟩, fun e => ⟨rfl, rfl, ?_, ?_⟩⟩
  · rw [exec_ofAddHl, addHl, add16_exact]
    rfl
  · rw [exec_addSpE8, addSp, addSpDisp_exact]
    rfl
  · rw [exec_ldHlSpE8, ldHlSpDisp, addSpDisp_exact]
    rfl

end Sys2Proof.Claims
end

section
/-! Registers and the flag byte (10_state.md R40-R42), and 45_system.md (R380-R386): the extended row of a second byte, what completes, and the obligations they settle. -/

namespace Sys2Proof.Machine

/-! ### The flag byte (10_state.md R42) -/

theorem toNat_and_F0 (v : Byte) : (v &&& 0xF0#8).toNat = 16 * (v.toNat / 16) := by
  have split := Claims.and_not_add_and v 0x0F#8
  have low : (v &&& 0x0F#8).toNat = v.toNat % 16 := Nat.and_two_pow_sub_one_eq_mod v.toNat 4
  have le : (v &&& ~~~0x0F#8).toNat ≤ v.toNat := Nat.and_le_left
  have mask : ~~~0x0F#8 = 0xF0#8 := rfl
  rw [mask] at split le
  bv_omega

/-- A byte written to F reads back with its low nibble zero. -/
theorem toByte_ofByte (v : Byte) : (Flags.ofByte v).toByte = v &&& 0xF0#8 := by
  apply BitVec.eq_of_toNat_eq
  rw [toNat_and_F0]
  unfold Flags.toByte Flags.ofByte
  simp only [bitNat_getLsbD, BitVec.toNat_ofNat]
  omega

/-! ### The meaning of each form of 45_system.md -/

theorem exec_halt (s : State) : exec .halt s = halt s := rfl

theorem exec_prefixCb (s : State) : exec .prefixCb s = extended s := rfl

theorem exec_ofIllegal (op : IllegalOp) (s : State) : exec (.ofIllegal op) s = illegal op.byte s := by
  cases op <;> rfl

/-- The extended row of a second byte is the instruction that byte decodes to (R385). -/
theorem exec_decodeCb (op2 : Byte) (s : State) : exec (decodeCb op2) s = extendedRow op2 s := by
  obtain ⟨x, y, z, hx, hy, hz, -⟩ := byte_fields op2
  unfold decodeCb extendedRow
  rw [hx, hy, hz]
  match x with
  | 0 => exact exec_ofShift (shiftOf y) (locOf z) s
  | 1 => exact exec_ofBit (octOf y) (locOf z) s
  | 2 => exact exec_ofRes (octOf y) (locOf z) s
  | 3 => exact exec_ofSet (octOf y) (locOf z) s

/-- A location read and written back leaves PC and SP; it completes where HL is in a band. -/
theorem modifyLoc_completes (l : Loc) (g : Byte → Flags → Alu8) (n : Nat) {s : State} (h : mapped s.hl = true) :
    ∃ t, modifyLoc l g n s = .next t ∧ t.pc = s.pc ∧ t.sp = s.sp := by
  cases l with
  | reg r => exact ⟨_, modifyLoc_reg r g n s, rfl, rfl⟩
  | indHl =>
    obtain ⟨v, hv⟩ := (mapped_iff_peek (Config.freeByte s.draws) s.hl s).1 h
    obtain ⟨w, hw⟩ := writeByte_mapped (g v s.f).val { s with draws := s.draws + 1 } h
    have pc := writeByte_pc hw
    have sp := writeByte_sp hw
    exact ⟨_, modifyLoc_indHl n hv hw, pc, sp⟩

/-- `BIT` on (HL) (43_rotate_shift_bit.md R323): one read. -/
theorem testBit_indHl (b : Oct) {s : State} {v : Byte} (h : peek (Config.freeByte s.draws) s.hl s = some v) :
    testBit b .indHl s = .next { s with draws := s.draws + 1, f := bitTest b v s.f, cycles := 12 } := by
  show andThen (readByte s.hl s) _ = _
  rw [readByte_of_peek h]
  rfl

theorem testBit_completes (b : Oct) (l : Loc) {s : State} (h : mapped s.hl = true) :
    ∃ t, testBit b l s = .next t ∧ t.pc = s.pc ∧ t.sp = s.sp := by
  cases l with
  | reg r => exact ⟨_, rfl, rfl, rfl⟩
  | indHl =>
    obtain ⟨v, hv⟩ := (mapped_iff_peek (Config.freeByte s.draws) s.hl s).1 h
    exact ⟨_, testBit_indHl b hv, rfl, rfl⟩

theorem extendedRow_completes (op2 : Byte) {s : State} (h : mapped s.hl = true) :
    ∃ t, extendedRow op2 s = .next t ∧ t.pc = s.pc ∧ t.sp = s.sp := by
  unfold extendedRow
  dsimp only
  split
  · exact modifyLoc_completes _ _ _ h
  · exact testBit_completes _ _ h
  · exact modifyLoc_completes _ _ _ h
  · exact modifyLoc_completes _ _ _ h

end Sys2Proof.Machine

namespace Sys2Proof.Claims

open Sys2Proof.Machine

/-- Settles O1: the laws of registers, halves and pairs, and the flag byte bit by bit. -/
theorem registersPairsAndFlagByteReadBack : Obligations.RegistersPairsAndFlagByteReadBack := by
  refine ⟨get_set, fun hi lo => ⟨hiByte_wordOf hi lo, loByte_wordOf hi lo, toNat_wordOf hi lo⟩, wordOf_halves,
    pair_setPair, fun f => ?_, toByte_ofByte⟩
  obtain ⟨z, n, h, c⟩ := f
  cases z <;> cases n <;> cases h <;> cases c <;> exact ⟨rfl, rfl⟩

/-- Settles O27: each sets at most the pending change, and the count. -/
theorem noOpAndInterruptEnable : Obligations.NoOpAndInterruptEnable :=
  fun _ => ⟨rfl, rfl, rfl, rfl, rfl, rfl⟩

/-- Settles O28: the second byte is an argument that `stop` ignores. -/
theorem stopClearsTheDivider : Obligations.StopClearsTheDivider :=
  fun _ _ => ⟨rfl, rfl⟩

/-- Settles O29: the two cases are the two branches of `halt`. -/
theorem haltWaitsOrFaults : Obligations.HaltWaitsOrFaults := by
  intro s
  refine ⟨rfl, fun waits => ?_, fun ime pending => ?_⟩
  · rw [exec_halt, halt, if_neg fun faults => ?_]
    · rfl
    · rw [faults.1] at waits
      exact waits.elim nofun faults.2
  · rw [exec_halt, halt, if_pos ⟨ime, pending⟩]
    rfl

/-- The illegal opcodes, in the order of R190. -/
def illegalOps : List IllegalOp := [.d3, .db, .dd, .e3, .e4, .eb, .ec, .ed, .f4, .fc, .fd]

theorem mem_illegalOps (op : IllegalOp) : op ∈ illegalOps := by
  cases op <;> decide

/-- Settles O30: each illegal row is `illegal` of its byte, and the eleven bytes are those of `illegalOps`. -/
theorem illegalOpcodesFault : Obligations.IllegalOpcodesFault := by
  refine ⟨fun s op => ⟨by cases op <;> rfl, exec_ofIllegal op s⟩, fun v => ?_⟩
  show _ ↔ v ∈ illegalOps.map IllegalOp.byte
  rw [List.mem_map]
  exact exists_congr fun op => (and_iff_right (mem_illegalOps op)).symm

/-- Settles O31: 0xCB is the fetch of its second byte and then the row that byte decodes to. -/
theorem prefixRunsTheExtendedRow : Obligations.PrefixRunsTheExtendedRow := by
  intro s
  have row (v : Byte) (hv : peek (Config.freeByte s.draws) s.pc s = some v) :
      exec .prefixCb s = exec (decodeCb v) { s with pc := s.pc + 1#16, draws := s.draws + 1 } := by
    rw [exec_prefixCb, exec_decodeCb, extended, fetch8_eq hv, andThen_next]
  refine ⟨rfl, row, fun unmapped => ?_, fun fetched hl => ?_⟩
  · rw [exec_prefixCb, extended, fetch8_unmapped unmapped]
    rfl
  · obtain ⟨v, hv⟩ := (mapped_iff_peek (Config.freeByte s.draws) s.pc s).1 fetched
    obtain ⟨t, ht, pc, sp⟩ := extendedRow_completes v (s := { s with pc := s.pc + 1#16, draws := s.draws + 1 }) hl
    exact ⟨v, t, hv, by rw [row v hv, exec_decodeCb, ht], pc, sp⟩

/-- Settles O32: the decoder evaluated on each word. -/
theorem writtenWordsDecode : Obligations.WrittenWordsDecode :=
  ⟨rfl, rfl, rfl, rfl, rfl, rfl, rfl, rfl, rfl, rfl, rfl, rfl, rfl, rfl⟩

end Sys2Proof.Claims
end

section
/-! The address router (20_memory.md R100-R131): each band read and written, the echo, the I/O registers and their fields, the controller without banking, and the obligations they settle. -/

namespace Sys2Proof.Machine

/-! ### The bands of the router, read and written (20_memory.md R100, R101, R104, R105) -/

theorem mapped_eq_true_iff (a : Word) : mapped a = true ↔ a.toNat < 0xFEA0 ∨ 0xFEFF < a.toNat := by
  simp [mapped]

theorem mapped_eq_false_iff (a : Word) : mapped a = false ↔ 0xFEA0 ≤ a.toNat ∧ a.toNat ≤ 0xFEFF := by
  simp [mapped]

theorem plainRam_iff (a : Word) :
    plainRam a = true ↔ (0x8000 ≤ a.toNat ∧ a.toNat ≤ 0x9FFF) ∨ (0xC000 ≤ a.toNat ∧ a.toNat ≤ 0xFE9F) ∨
      (0xFF80 ≤ a.toNat ∧ a.toNat ≤ 0xFFFE) := by
  simp [plainRam, or_assoc]

/-- The StorageController's two bands. -/
def inCart (a : Word) : Prop := a.toNat ≤ 0x7FFF ∨ (0xA000 ≤ a.toNat ∧ a.toNat ≤ 0xBFFF)

theorem peek_overlay {a : Word} (d : Byte) {s : State} (ha : a.toNat ≤ 0x00FF) (hb : s.bootLatch = false) :
    peek d a s = some (Config.bootImage (loByte a)) := if_pos ⟨ha, hb⟩

theorem peek_cart {a : Word} (d : Byte) {s : State} (ha : inCart a) (hb : 0x00FF < a.toNat ∨ s.bootLatch = true) :
    peek d a s = some (cartRead d a.toNat s.cart) := by
  have uncovered : ¬(a.toNat ≤ 0x00FF ∧ s.bootLatch = false) := fun ⟨low, off⟩ => by
    obtain high | on := hb
    · omega
    · rw [on] at off
      cases off
  unfold inCart at ha
  unfold peek
  dsimp only
  rw [if_neg uncovered]
  by_cases rom : a.toNat ≤ 0x7FFF
  · rw [if_pos rom]
  · rw [if_neg rom, if_neg (by omega), if_pos (by omega)]

theorem writeByte_cartBand {a : Word} (v : Byte) (s : State) (ha : inCart a) :
    writeByte a v s = .next { s with cart := cartWrite a.toNat v s.cart } := by
  unfold inCart at ha
  unfold writeByte
  dsimp only
  by_cases rom : a.toNat ≤ 0x7FFF
  · rw [if_pos rom]
  · rw [if_neg rom, if_neg (by omega), if_pos (by omega)]

section
variable {a : Word} (low : 0xFF00 ≤ a.toNat) (high : a.toNat ≤ 0xFF7F)
include low high

theorem peek_io (d : Byte) (s : State) : peek d a s = some (ioRead d (ioReg a.toNat) s) := by
  unfold peek
  dsimp only
  iterate 8 rw [if_neg (by omega)]
  rw [if_pos high]

theorem writeByte_io (v : Byte) (s : State) : writeByte a v s = .next (ioWrite v (ioReg a.toNat) s) := by
  unfold writeByte
  dsimp only
  iterate 7 rw [if_neg (by omega)]
  rw [if_pos high]

end

/-- The address of every known I/O register is in R120's table. -/
theorem ioReg_eq_unknown {n : Nat} (h : n ∉ Claims.knownIo) : ioReg n = .unknown := by
  have known (r : IoReg) (hr : r ≠ .unknown) : ioAddr r ∈ Claims.knownIo := by
    cases r <;> first | decide | exact absurd rfl hr
  by_contra hu
  exact h (ioAddr_ioReg hu ▸ known _ hu)

/-! ### The echo (R107) -/

theorem ramKey_add_echo {a : Word} (h1 : 0xC000 ≤ a.toNat) (h2 : a.toNat ≤ 0xDDFF) :
    plainRam (a + 0x2000#16) = true ∧ ramKey (a + 0x2000#16) = ramKey a := by
  have up : (a + 0x2000#16).toNat = a.toNat + 0x2000 := by bv_omega
  rw [plainRam_iff]
  unfold ramKey
  rw [up, if_pos (by omega), if_neg (by omega)]
  omega

theorem ramKey_sub_echo {a : Word} (h1 : 0xE000 ≤ a.toNat) (h2 : a.toNat ≤ 0xFDFF) :
    plainRam (a - 0x2000#16) = true ∧ ramKey (a - 0x2000#16) = ramKey a := by
  have down : (a - 0x2000#16).toNat = a.toNat - 0x2000 := by bv_omega
  rw [plainRam_iff]
  unfold ramKey
  rw [down, if_neg (by omega), if_pos (by omega)]
  omega

end Sys2Proof.Machine

namespace Sys2Proof.Claims

open Sys2Proof.Machine

/-- Settles O36: the range is the one that is not `mapped`, and there both accesses raise. -/
theorem onlyTheUnmappedRangeFaults : Obligations.OnlyTheUnmappedRangeFaults := by
  intro a v s
  rw [← mapped_eq_false_iff, ← mapped_eq_true_iff]
  refine ⟨fun h => ⟨readByte_unmapped s h, writeByte_unmapped v s h⟩, fun h => ⟨?_, writeByte_mapped v s h⟩⟩
  obtain ⟨b, hb⟩ := (mapped_iff_peek _ a s).1 h
  exact ⟨b, readByte_of_peek hb⟩

/-- Settles O37: a byte stored is listed under its key, which an address and its echo share. -/
theorem plainStorageReadsBack : Obligations.PlainStorageReadsBack := by
  intro a v d s h
  rw [← plainRam_iff] at h
  have reads {a' : Word} (ha' : plainRam a' = true ∧ ramKey a' = ramKey a) :
      peek d a' { s with ram := memSet (ramKey a) v s.ram } = some v := by
    rw [peek_plainRam ha'.1, ramGet_memSet, if_pos ha'.2]
  exact ⟨_, writeByte_plainRam v s h, reads ⟨h, rfl⟩, fun h1 h2 => reads (ramKey_add_echo h1 h2),
    fun h1 h2 => reads (ramKey_sub_echo h1 h2)⟩

/-- Settles O39: each address selects its register, and an address in no row of the table selects none. -/
theorem ioRegistersWrite : Obligations.IoRegistersWrite := by
  intro v s
  refine ⟨rfl, rfl, rfl, rfl, rfl, rfl, rfl, rfl, rfl, rfl, rfl, rfl, rfl, rfl, rfl, rfl, rfl, rfl, ?_⟩
  intro a low high unknown
  rw [writeByte_io low high, ioReg_eq_unknown unknown]
  rfl

/-- Settles O41: with `NoBanking` the offset is the address, and no store is taken. -/
theorem noBankingCartridge : Obligations.NoBankingCartridge := by
  intro a v d s hv
  refine ⟨fun rom uncovered => ?_, fun low high => ?_, fun band => ?_⟩
  · rw [peek_cart d (.inl rom) uncovered, cartRead, hv]
    exact congrArg some (if_pos rom)
  · rw [peek_cart d (.inr ⟨low, high⟩) (.inl (by omega)), cartRead, hv]
    exact congrArg some (if_neg (by omega))
  · rw [writeByte_cartBand v s band, cartWrite, hv]

end Sys2Proof.Claims

namespace Sys2Proof.Machine

/-! ### Fields joined into a byte with the draw -/

/-- P1 (R120): select and input lines under two drawn bits. -/
theorem ioRead_p1_fields (d : Byte) (s : State) :
    (ioRead d .p1 s).extractLsb' 0 4 = s.io.p1Input ∧ (ioRead d .p1 s).extractLsb' 4 2 = s.io.p1Select ∧
      (ioRead d .p1 s).extractLsb' 6 2 = d.extractLsb' 6 2 := by
  unfold ioRead
  refine ⟨?_, ?_, ?_⟩ <;> ext i hi <;> interval_cases i <;> simp

/-- A field of three bits under five drawn ones (TAC). -/
theorem low3_fields (d : Byte) (x : BitVec 3) :
    ((d &&& 0xF8#8) ||| x.setWidth 8).extractLsb' 0 3 = x ∧
      ((d &&& 0xF8#8) ||| x.setWidth 8).extractLsb' 3 5 = d.extractLsb' 3 5 := by
  refine ⟨?_, ?_⟩ <;> ext i hi <;> interval_cases i <;> simp

/-- A field of five bits under three drawn ones (IF, IE). -/
theorem low5_fields (d : Byte) (x : BitVec 5) :
    ((d &&& 0xE0#8) ||| x.setWidth 8).extractLsb' 0 5 = x ∧
      ((d &&& 0xE0#8) ||| x.setWidth 8).extractLsb' 5 3 = d.extractLsb' 5 3 := by
  refine ⟨?_, ?_⟩ <;> ext i hi <;> interval_cases i <;> simp

/-- STAT (R120): the two parts under one drawn bit. -/
theorem ioRead_stat_fields (d : Byte) (s : State) :
    (ioRead d .stat s).extractLsb' 0 3 = s.io.statPpu ∧ (ioRead d .stat s).extractLsb' 3 4 = s.io.statCpu ∧
      (ioRead d .stat s).extractLsb' 7 1 = d.extractLsb' 7 1 := by
  unfold ioRead
  refine ⟨?_, ?_, ?_⟩ <;> ext i hi <;> interval_cases i <;> simp

end Sys2Proof.Machine

namespace Sys2Proof.Claims

open Sys2Proof.Machine

/-- Settles O38: each address selects its register; the registers of fewer than eight bits share their byte with the
draw. -/
theorem ioRegistersRead : Obligations.IoRegistersRead := by
  intro d s
  have reads (a : Word) (low : 0xFF00 ≤ a.toNat) (high : a.toNat ≤ 0xFF7F) {p : Byte → Prop}
      (h : p (ioRead d (ioReg a.toNat) s)) : Reads d a s p := ⟨_, peek_io low high d s, h⟩
  refine ⟨reads _ (by decide) (by decide) (ioRead_p1_fields d s), ⟨_, rfl, rfl⟩, ⟨_, rfl, rfl⟩, ⟨_, rfl, rfl⟩,
    ⟨_, rfl, rfl⟩, ⟨_, rfl, rfl⟩, reads _ (by decide) (by decide) (low3_fields d _),
    reads _ (by decide) (by decide) (low5_fields d _), ⟨_, rfl, rfl⟩, reads _ (by decide) (by decide) (ioRead_stat_fields d s),
    ⟨_, rfl, rfl⟩, ⟨_, rfl, rfl⟩, ⟨_, rfl, rfl⟩, ⟨_, rfl, rfl⟩, ⟨_, rfl, rfl⟩, ⟨_, rfl, rfl⟩, ⟨_, rfl, rfl⟩,
    ⟨_, rfl, low5_fields d _⟩, ?_⟩
  intro a low high unknown
  refine reads a low high ?_
  rw [ioReg_eq_unknown unknown]
  rfl

end Sys2Proof.Claims
end

section
/-! The switchable-banking controller (20_memory.md R160-R167), window by window, and the obligations it settles. -/

namespace Sys2Proof.Machine

/-! ### Fields of a stored byte as numbers (20_memory.md R160-R163) -/

theorem and_0F_eq_iff (v : Byte) : v &&& 0x0F#8 = 0x0A#8 ↔ v.toNat % 16 = 0x0A := by
  have nibble : (v &&& 0x0F#8).toNat = v.toNat % 16 := Nat.and_two_pow_sub_one_eq_mod v.toNat 4
  rw [← nibble, BitVec.toNat_eq]
  rfl

theorem extractLsb'_zero (v : Byte) (n : Nat) : v.extractLsb' 0 n = BitVec.ofNat n v.toNat := by
  apply BitVec.eq_of_toNat_eq
  rw [BitVec.extractLsb'_toNat, BitVec.toNat_ofNat, Nat.shiftRight_zero]

theorem ofNat_five_eq_zero_iff (v : Byte) : BitVec.ofNat 5 v.toNat = 0#5 ↔ v.toNat % 32 = 0 := by
  rw [BitVec.toNat_eq, BitVec.toNat_ofNat]
  rfl

theorem getLsbD_zero (v : Byte) : v.getLsbD 0 = decide (v.toNat % 2 = 1) := by
  rw [getLsbD_eq_decide, Nat.pow_zero, Nat.div_one]

theorem bankedOffset_eq (n : Nat) (c : Cart) :
    bankedOffset n c = (32 * c.romHigh.toNat + c.romLow.toNat) * 0x4000 + (n - 0x4000) := by
  unfold bankedOffset romBank
  omega

/-! ### The switchable-banking controller, window by window -/

section
variable {c : Cart} (hc : c.variant = .switchableBanking) (n : Nat) (v : Byte)
include hc

theorem cartWrite_ramEnable (h : n ≤ 0x1FFF) :
    cartWrite n v c = { c with ramEnable := decide (v.toNat % 16 = 0x0A) } := by
  unfold cartWrite
  rw [hc]
  dsimp only
  rw [if_pos h]
  simp only [and_0F_eq_iff]

theorem cartWrite_romLow (h1 : 0x2000 ≤ n) (h2 : n ≤ 0x3FFF) :
    cartWrite n v c = { c with romLow := if v.toNat % 32 = 0 then 1#5 else BitVec.ofNat 5 v.toNat } := by
  unfold cartWrite
  rw [hc]
  dsimp only
  rw [if_neg (by omega), if_pos h2, extractLsb'_zero]
  simp only [ofNat_five_eq_zero_iff]

theorem cartWrite_upper (h1 : 0x4000 ≤ n) (h2 : n ≤ 0x5FFF) :
    cartWrite n v c =
      { c with
        ramBank := if c.mode then BitVec.ofNat 2 v.toNat else c.ramBank
        romHigh := if c.mode then c.romHigh else BitVec.ofNat 2 v.toNat } := by
  unfold cartWrite
  rw [hc]
  dsimp only
  rw [if_neg (by omega), if_neg (by omega), if_pos h2, extractLsb'_zero]
  cases c.mode <;> rfl

theorem cartWrite_mode (h1 : 0x6000 ≤ n) (h2 : n ≤ 0x7FFF) :
    cartWrite n v c =
      { c with
        mode := decide (v.toNat % 2 = 1)
        ramBank := if v.toNat % 2 = 1 then c.ramBank else 0#2 } := by
  unfold cartWrite
  rw [hc]
  dsimp only
  rw [if_neg (by omega), if_neg (by omega), if_neg (by omega), if_pos h2, getLsbD_zero]
  by_cases odd : v.toNat % 2 = 1
  · simp only [odd, decide_true, if_true]
  · simp only [odd, decide_false, Bool.false_eq_true, if_false]

theorem cartWrite_cram (h : 0x7FFF < n) :
    cartWrite n v c =
      { c with cram := if c.ramEnable then memSet (cramOffset n c) v c.cram else c.cram } := by
  obtain ⟨variant, rom, romLen, cram, ramEnable, romLow, romHigh, ramBank, mode⟩ := c
  cases hc
  unfold cartWrite
  dsimp only
  rw [if_neg (by omega), if_neg (by omega), if_neg (by omega), if_neg (by omega)]
  cases ramEnable <;> rfl

end

end Sys2Proof.Machine

namespace Sys2Proof.Claims

open Sys2Proof.Machine

/-- Settles O42: window by window, the controller's write on numbers. -/
theorem bankRegistersWrite : Obligations.BankRegistersWrite := by
  intro a v s hv
  refine ⟨fun h => ?_, fun h1 h2 => ?_, fun h1 h2 => ?_, fun h1 h2 => ?_, fun h1 h2 => ?_⟩
  · rw [writeByte_cartBand v s (.inl (by omega)), cartWrite_ramEnable hv _ v h]
  · rw [writeByte_cartBand v s (.inl (by omega)), cartWrite_romLow hv _ v h1 h2]
  · rw [writeByte_cartBand v s (.inl (by omega)), cartWrite_upper hv _ v h1 h2]
  · rw [writeByte_cartBand v s (.inl (by omega)), cartWrite_mode hv _ v h1 h2]
  · rw [writeByte_cartBand v s (.inr ⟨h1, h2⟩), cartWrite_cram hv _ v (by omega)]
    rfl

/-- Settles O43: window by window, the controller's read; a byte stored in an enabled bank is listed where it is read. -/
theorem bankWindowsRead : Obligations.BankWindowsRead := by
  intro a d s hv
  refine ⟨fun rom uncovered => ?_, fun h1 h2 => ?_, fun h1 h2 => ?_⟩
  · rw [peek_cart d (.inl (by omega)) uncovered, cartRead, hv]
    exact congrArg some (if_pos rom)
  · rw [peek_cart d (.inl h2) (.inl (by omega)), cartRead, hv]
    dsimp only
    rw [if_neg (by omega), if_pos h2, bankedOffset_eq]
  · have shown (t : State) (ht : t.cart.variant = .switchableBanking) :
        peek d a t = some (if t.cart.ramEnable then cramGet (cramOffset a.toNat t.cart) t.cart.cram else d) := by
      rw [peek_cart d (.inr ⟨h1, h2⟩) (.inl (by omega)), cartRead, ht]
      dsimp only
      rw [if_neg (by omega), if_neg (by omega)]
    refine ⟨fun enabled => ⟨?_, fun v => ?_⟩, fun disabled => ?_⟩
    · rw [shown s hv, enabled]
      rfl
    · refine ⟨_, writeByte_cartBand v s (.inr ⟨h1, h2⟩), ?_⟩
      rw [shown _ ((cartWrite_variant ..).trans hv), cartWrite_cram hv _ v (by omega)]
      dsimp only
      rw [enabled, if_pos rfl, if_pos rfl, cramGet_memSet]
      exact congrArg some (if_pos rfl)
    · rw [shown s hv, disabled]
      rfl

end Sys2Proof.Claims
end

section
/-! The boot latch, the image the loader keeps (20_memory.md R106, R130, R150), the part of the state a store may change, and the obligations they settle. -/

namespace Sys2Proof.Machine

/-! ### The boot latch stays set (20_memory.md R106, R130) -/

theorem closed_bootLatch (ts : List Word) : Closed ts fun s => s.bootLatch = true where
  regs _ _ h := h
  f _ _ h := h
  sp _ _ h := h
  pc _ _ h := h
  draws _ _ h := h
  write _ _ _ _ _ e h := writeByte_bootLatch e h

theorem exec_bootLatch {i : Instr} {s t : State} (h : exec i s = .next t) (hs : s.bootLatch = true) :
    t.bootLatch = true := by
  by_cases hc : controls i = true
  · obtain rfl | rfl | rfl | rfl | ⟨v, rfl⟩ := controls_cases hc
    · cases h; exact hs
    · cases h; exact hs
    · obtain ⟨lo, hi, _, _, rfl⟩ := reti_next h
      exact hs
    · rw [halt_next h]
      exact hs
    · cases h; exact hs
  · obtain ⟨u, n, hu, _, rfl⟩ := exec_keeps (closed_bootLatch _) (by simpa using hc) hs h
    exact hu

theorem step_bootLatch {s t : State} (h : step s = .next t) (hs : s.bootLatch = true) : t.bootLatch = true := by
  obtain ⟨_, ⟨_, rfl⟩ | ⟨_, r, v, serviced, ran, rfl⟩⟩ := step_next h
  · exact hs
  · have hr : r.2.bootLatch = true :=
      service_keeps serviced (closed_bootLatch _) (fun _ _ _ h => h) (fun _ _ h => h) (fun _ _ _ h => h)
        (by rw [applyPending_bootLatch, beginFrame_bootLatch, hs])
    rw [inputTick_bootLatch, endIteration_bootLatch]
    obtain ⟨_, _, i, n, w, hw, rfl⟩ | ⟨_, rfl⟩ := runOrIdle_next ran
    · rw [tickDivider_bootLatch]
      exact exec_bootLatch hw hr
    · rw [idle_bootLatch, hr]

/-! ### The image the loader keeps (R150; notes/assumptions/17.md) -/

theorem imageCells_keys (img : List Byte) : ∀ k, ∀ cell ∈ imageCells k img,
    k ≤ cell.1 ∧ cell.1 < k + img.length ∧ cell.2 ≠ 0#8 := by
  induction img with
  | nil => exact fun _ _ h => nomatch h
  | cons v img ih =>
    intro k cell h
    have later (h : cell ∈ imageCells (k + 1) img) :
        k ≤ cell.1 ∧ cell.1 < k + (v :: img).length ∧ cell.2 ≠ 0#8 := by
      obtain ⟨h1, h2, h3⟩ := ih (k + 1) cell h
      exact ⟨by omega, by rw [List.length_cons]; omega, h3⟩
    rw [imageCells] at h
    split at h
    · exact later h
    · rename_i hv
      obtain rfl | h := List.mem_cons.1 h
      · exact ⟨Nat.le_refl k, by rw [List.length_cons]; omega, hv⟩
      · exact later h

theorem wf_imageCells (img : List Byte) : ∀ k, Memory.wf (imageCells k img) = true := by
  induction img with
  | nil => exact fun _ => rfl
  | cons v img ih =>
    intro k
    rw [imageCells]
    split
    · exact ih (k + 1)
    · refine wf_cons.2 ⟨List.all_eq_true.2 fun cell h => ?_, ih (k + 1)⟩
      have := (imageCells_keys img (k + 1) cell h).1
      exact decide_eq_true (by omega)

theorem wfRom_imageCells (img : List Byte) : Memory.wfRom (imageCells 0 img) img.length = true := by
  unfold Memory.wfRom
  rw [wf_imageCells, Bool.true_and, List.all_eq_true]
  intro cell h
  obtain ⟨_, h2, h3⟩ := imageCells_keys img 0 cell h
  rw [Nat.zero_add] at h2
  rw [decide_eq_true h2, decide_eq_true h3]
  rfl

/-- An address no cell lists. -/
theorem memGet_eq_none {k : Nat} {m : Memory} (h : ∀ cell ∈ m, cell.1 ≠ k) : memGet k m = none := by
  induction m with
  | nil => rfl
  | cons cell m ih =>
    rw [memGet, if_neg (h _ List.mem_cons_self).symm]
    exact ih fun c hc => h c (List.mem_cons_of_mem _ hc)

/-- The image held sparsely gives back each of its bytes. -/
theorem romGet_imageCells (img : List Byte) : ∀ k j, j < img.length → img[j]? = some (romGet (k + j) (imageCells k img)) := by
  induction img with
  | nil => exact fun _ _ h => nomatch h
  | cons v img ih =>
    intro k j h
    have unlisted : memGet k (imageCells (k + 1) img) = none :=
      memGet_eq_none fun cell hc => by have := (imageCells_keys img (k + 1) cell hc).1; omega
    cases j with
    | zero =>
      rw [List.getElem?_cons_zero, Nat.add_zero, imageCells, romGet]
      split
      · rename_i hv
        rw [unlisted, hv]
        rfl
      · rw [memGet, if_pos rfl]
        rfl
    | succ j =>
      rw [List.length_cons] at h
      rw [List.getElem?_cons_succ, ih (k + 1) j (by omega), imageCells, romGet, romGet,
        show k + (j + 1) = k + 1 + j by omega]
      split
      · rfl
      · rw [memGet, if_neg (by omega)]

end Sys2Proof.Machine

namespace Sys2Proof.Claims

open Sys2Proof.Machine

/-- Settles O40: the overlay is the first test of a read and no test of a write; no store clears the latch. -/
theorem bootOverlayCoversReadsUntilLatched : Obligations.BootOverlayCoversReadsUntilLatched := by
  refine ⟨fun a v d s ha => ⟨fun off => ?_, fun on => peek_cart d (.inl (by omega)) (.inr on),
    writeByte_cartBand v s (.inl (by omega))⟩, fun s t hs h => step_bootLatch h hs⟩
  have offset : loByte a = BitVec.ofNat 8 a.toNat := by
    apply BitVec.eq_of_toNat_eq
    rw [toNat_loByte, BitVec.toNat_ofNat]
  rw [peek_overlay d ha off, offset]

/-- Settles O44: the tests are those of `load` in its order, and the image is held cell by cell. -/
theorem loaderChecksAndBuilds : Obligations.LoaderChecksAndBuilds := by
  intro types img
  refine ⟨fun short => if_pos short, fun long => ⟨fun unmapped => ?_, fun variant found => ⟨fun oversized => ?_,
    fun small large => ?_⟩⟩⟩
  · unfold load
    rw [if_neg (by omega)]
    dsimp only
    rw [unmapped]
  · have limit : romLimit variant < img.length := by
      obtain ⟨rfl, h⟩ | ⟨rfl, h⟩ := oversized <;> exact h
    unfold load
    rw [if_neg (by omega)]
    dsimp only
    rw [found]
    exact if_pos limit
  · have limit : ¬romLimit variant < img.length := by
      cases variant
      · exact Nat.not_lt.2 (small rfl)
      · exact Nat.not_lt.2 (large rfl)
    refine ⟨Cart.ofImage variant (imageCells 0 img) img.length, ?_, rfl, rfl, wfRom_imageCells img, fun k hk => ?_, rfl, rfl,
      rfl, rfl, rfl, rfl⟩
    · unfold load
      rw [if_neg (by omega)]
      dsimp only
      rw [found]
      exact if_neg limit
    · have := romGet_imageCells img 0 k hk
      rwa [Nat.zero_add] at this

/-- Settles O46: band by band, a store writes what is the band's own. -/
theorem storesChangeOnlyTheirBand : Obligations.StoresChangeOnlyTheirBand := by
  intro a v s w h
  obtain ⟨variant, rom, romLen⟩ := writeByte_cart h
  refine ⟨writeByte_shape h, variant, rom, romLen, ?_⟩
  obtain ⟨h1, rfl⟩ | ⟨h1, rfl⟩ | ⟨h1, rfl⟩ | ⟨h1, rfl⟩ := writeByte_bands h
  · exact ⟨by omega, fun _ => rfl, fun _ => rfl, fun _ => rfl, fun _ => rfl, fun _ => rfl, fun _ => rfl⟩
  · rw [plainRam_iff] at h1
    exact ⟨fun _ _ => rfl, by omega, fun _ => rfl, fun _ => rfl, fun _ => rfl, fun _ => rfl, fun _ => rfl⟩
  · obtain ⟨cart, ram, enable⟩ := ioWrite_shape v (ioReg a.toNat) s
    obtain ⟨io, timer, flag⟩ := ioWrite_cells v a.toNat s
    exact ⟨fun _ _ => cart, fun _ => ram, io, timer, flag, fun _ => enable, ioWrite_bootLatch⟩
  · exact ⟨fun _ _ => rfl, fun _ => rfl, fun _ => rfl, fun _ => rfl, fun _ => rfl, fun e => absurd h1 e, fun _ => rfl⟩

end Sys2Proof.Claims
end

section
/-! What an instruction leaves of memory and of the control state (10_state.md R50-R54; 20_memory.md R103-R105), the counts it returns, and the obligations they settle. -/

namespace Sys2Proof.Machine

/-! ### The frame of memory: a byte no store disturbs -/

/-- A property of a state that a store to an address `disturbs` clears of `a` keeps. -/
theorem closed_peek (d : Byte) (a : Word) (s : State) {ts : List Word} (h : ∀ b ∈ ts, disturbs s b a = false) :
    Closed ts fun u => u.cart.variant = s.cart.variant ∧ peek d a u = peek d a s where
  regs _ _ h := h
  f _ _ h := h
  sp _ _ h := h
  pc _ _ h := h
  draws _ _ h := h
  write b v u w hb e hu := by
    obtain ⟨variant, shown⟩ := hu
    have undisturbed : disturbs u b a = false := by
      rw [← h b hb]
      unfold disturbs
      rw [variant]
    exact ⟨(writeByte_cart e).1.trans variant, (writeByte_peek e undisturbed).trans shown⟩

/-- `STOP` clears DIV as a store to 0xFF04 does (45_system.md R382). -/
theorem writeByte_div (v : Byte) (s : State) :
    writeByte 0xFF04#16 v s = .next { s with timer := { s.timer with div := 0#8, divAcc := 0 } } := rfl

end Sys2Proof.Machine

namespace Sys2Proof.Claims

open Sys2Proof.Machine

/-- Settles O45: every instruction but the five that control is a sequence of updates that keep the byte; of the five
only `STOP` clears a byte, DIV. -/
theorem instructionsKeepOtherBytes : Obligations.InstructionsKeepOtherBytes := by
  intro i s t a d h undisturbed
  by_cases hc : controls i = true
  · obtain rfl | rfl | rfl | rfl | ⟨b, rfl⟩ := controls_cases hc
    · cases h; rfl
    · cases h; rfl
    · obtain ⟨lo, hi, _, _, rfl⟩ := reti_next h
      rfl
    · rw [halt_next h]
      rfl
    · cases h
      have cleared := writeByte_peek (d := d) (writeByte_div 0#8 s) (undisturbed _ List.mem_cons_self)
      exact cleared
  · obtain ⟨u, n, hu, _, rfl⟩ := exec_keeps (closed_peek d a s undisturbed) (by simpa using hc) ⟨rfl, rfl⟩ h
    exact hu.2

/-- Settles O48: the counts `exec_run` lists are the multiples of 4 from 4 to 24. -/
theorem cycleCountsAreLegal : Obligations.CycleCountsAreLegal := by
  intro i s t h
  obtain ⟨_, _, _, listed⟩ := exec_run h
  have legal : ∀ n ∈ cycleCounts, n % 4 = 0 ∧ 4 ≤ n ∧ n ≤ 24 := by decide
  exact legal _ listed

/-- What an instruction that controls neither interrupts nor power leaves of the control state, where it stores only
at `ts`. -/
structure SameControl (ts : List Word) (s u : State) : Prop where
  ime : u.ime = s.ime
  imePending : u.imePending = s.imePending
  halted : u.halted = s.halted
  stopped : u.stopped = s.stopped
  intEnable : 0xFFFF#16 ∉ ts → u.intEnable = s.intEnable
  intFlag : 0xFF0F#16 ∉ ts → u.intFlag = s.intFlag
  bootLatch : 0xFF50#16 ∉ ts → u.bootLatch = s.bootLatch
  variant : u.cart.variant = s.cart.variant
  rom : u.cart.rom = s.cart.rom
  romLen : u.cart.romLen = s.cart.romLen

theorem SameControl.of_same {ts : List Word} {s u w : State} (h : SameControl ts s u)
    (hw : w = { u with regs := w.regs, f := w.f, sp := w.sp, pc := w.pc, draws := w.draws }) :
    SameControl ts s w := by
  rw [hw]
  exact ⟨h.1, h.2, h.3, h.4, h.5, h.6, h.7, h.8, h.9, h.10⟩

theorem closed_sameControl (ts : List Word) (s : State) : Closed ts (SameControl ts s) where
  regs _ _ h := h.of_same rfl
  f _ _ h := h.of_same rfl
  sp _ _ h := h.of_same rfl
  pc _ _ h := h.of_same rfl
  draws _ _ h := h.of_same rfl
  write a v u w ha e h := by
    obtain ⟨shape, variant, rom, romLen, _, _, _, _, flag, enable, latch⟩ := storesChangeOnlyTheirBand a v u w e
    have other {b : Word} (hb : b ∉ ts) : a.toNat ≠ b.toNat := fun he => hb (BitVec.eq_of_toNat_eq he ▸ ha)
    rw [shape]
    exact ⟨h.ime, h.imePending, h.halted, h.stopped, fun hb => (enable (other hb)).trans (h.intEnable hb),
      fun hb => (flag (other hb)).trans (h.intFlag hb), fun hb => (latch (other hb)).trans (h.bootLatch hb),
      variant.trans h.variant, rom.trans h.rom, romLen.trans h.romLen⟩

/-- Settles O47: every instruction but the five that control keeps `SameControl`, and the five say what they write. -/
theorem controlStateFrame : Obligations.ControlStateFrame := by
  intro i s t h
  obtain ⟨params, frameTotal, fault, _⟩ := exec_run h
  by_cases hc : controls i = true
  · obtain rfl | rfl | rfl | rfl | ⟨b, rfl⟩ := controls_cases hc
    · cases h
      simp
    · cases h
      simp
    · obtain ⟨lo, hi, _, _, rfl⟩ := reti_next h
      simp
    · rw [halt_next h]
      simp
    · cases h
      simp
  · obtain ⟨u, n, hu, _, rfl⟩ := exec_keeps (closed_sameControl _ s) (by simpa using hc)
      ⟨rfl, rfl, rfl, rfl, fun _ => rfl, fun _ => rfl, fun _ => rfl, rfl, rfl, rfl⟩ h
    exact ⟨fun _ => hu.ime, fun _ _ _ => hu.imePending, fun _ => hu.halted, fun _ => hu.stopped, hu.intEnable, hu.intFlag,
      hu.bootLatch, fault, params, frameTotal, hu.variant, hu.rom, hu.romLen⟩

end Sys2Proof.Claims
end

section
/-! The pending IME change and the service step (60_exceptions.md R420-R426), path by path, and the obligations they settle. -/

namespace Sys2Proof.Machine

/-! ### The service step (60_exceptions.md R420-R423, R426) -/

theorem firstIrq_eq_none_iff (p : BitVec 5) : firstIrq p = none ↔ p = 0#5 := by decide +revert

theorem firstIrq_eq_some {p : BitVec 5} {k : Irq} (set : p.getLsbD k.bit = true)
    (least : ∀ j, j < k.bit → p.getLsbD j = false) : firstIrq p = some k := by
  have bit (j : Nat) (hj : j < k.bit) : ¬p.getLsbD j = true := by rw [least j hj]; exact nofun
  unfold firstIrq
  cases k with
  | verticalBlank => exact if_pos set
  | displayStatus => rw [if_neg (bit 0 (by decide))]; exact if_pos set
  | timerOverflow => rw [if_neg (bit 0 (by decide)), if_neg (bit 1 (by decide))]; exact if_pos set
  | serial => rw [if_neg (bit 0 (by decide)), if_neg (bit 1 (by decide)), if_neg (bit 2 (by decide))]; exact if_pos set
  | inputEdge =>
    rw [if_neg (bit 0 (by decide)), if_neg (bit 1 (by decide)), if_neg (bit 2 (by decide)), if_neg (bit 3 (by decide))]
    exact if_pos set

/-- STOP goes on where the input edge is not requested (R423). -/
theorem service_stopped {s : State} (stopped : s.stopped = true) (edge : s.intFlag.getLsbD 4 = false) :
    service s = .next (0, applyClearPolicy s.ime s) := by
  have stays : wakeStopped s = s := if_neg fun h => by rw [edge] at h; exact nomatch h.2
  unfold service
  rw [stays]
  exact if_pos stopped

theorem wakeStopped_eq {s : State} (h : s.stopped = false ∨ s.intFlag.getLsbD 4 = true) :
    wakeStopped s = { s with stopped := false } := by
  unfold wakeStopped
  split
  · rfl
  · rename_i hs
    have running : s.stopped = false := by
      obtain h | h := h
      · exact h
      · exact Bool.eq_false_iff.2 fun hb => hs ⟨hb, h⟩
    rw [← running]

theorem service_running {s : State} (h : s.stopped = false ∨ s.intFlag.getLsbD 4 = true) :
    service s =
      andThen (dispatchFirst (wakeHalted { s with stopped := false })) fun r =>
        .next (r.1, applyClearPolicy s.ime r.2) := by
  unfold service
  rw [wakeStopped_eq h]
  rfl

theorem wakeHalted_pending {s : State} (h : pendingIrqs s ≠ 0#5) : wakeHalted s = { s with halted := false } := by
  unfold wakeHalted
  split
  · rfl
  · rename_i hs
    have awake : s.halted = false := Bool.eq_false_iff.2 fun hb => hs ⟨hb, h⟩
    rw [← awake]

/-- With nothing enabled pending, HALT goes on and nothing is dispatched. -/
theorem dispatchFirst_none {s : State} (h : pendingIrqs s = 0#5) : dispatchFirst (wakeHalted s) = .next (0, s) := by
  have waits : wakeHalted s = s := if_neg fun hp => hp.2 h
  rw [waits, dispatchFirst, (firstIrq_eq_none_iff _).2 h]
  exact ite_self _

/-- With IME = 0 an enabled request only ends HALT (R422). -/
theorem dispatchFirst_masked {s : State} (h : pendingIrqs s ≠ 0#5) (ime : s.ime = false) :
    dispatchFirst (wakeHalted s) = .next (0, { s with halted := false }) := by
  rw [wakeHalted_pending h]
  exact if_neg fun hb => Bool.false_ne_true (ime.symm.trans hb)

/-- With IME = 1 the first enabled request is taken (R425, R426). -/
theorem dispatchFirst_some {s : State} {k : Irq} (h : firstIrq (pendingIrqs s) = some k) (ime : s.ime = true) :
    dispatchFirst (wakeHalted s) = andThen (dispatchIrq k { s with halted := false }) fun t => .next (20, t) := by
  have pending : pendingIrqs s ≠ 0#5 := fun h0 => by
    rw [(firstIrq_eq_none_iff _).2 h0] at h
    cases h
  have first : firstIrq (pendingIrqs { s with halted := false }) = some k := h
  rw [wakeHalted_pending pending, dispatchFirst, first]
  exact if_pos ime

end Sys2Proof.Machine

namespace Sys2Proof.Claims

open Sys2Proof.Machine

/-- The clear policy of R421 as the model applies it. -/
theorem afterPolicy_eq (ime0 : Bool) (s : State) : afterPolicy ime0 s = applyClearPolicy ime0 s := by
  unfold afterPolicy applyClearPolicy
  cases s.params.ifClearPolicy <;> cases ime0 <;> rfl

/-- Settles O51: each case is one path through waking, the first request and the clear policy. -/
theorem serviceStep : Obligations.ServiceStep := by
  intro s
  simp only [afterPolicy_eq]
  refine ⟨service_stopped, fun running => ⟨fun none => ?_, fun pending masked => ?_, fun k set least ime => ?_⟩⟩
  · rw [service_running running, dispatchFirst_none (s := { s with stopped := false }) none]
    rfl
  · rw [service_running running, dispatchFirst_masked (s := { s with stopped := false }) pending masked, masked]
    rfl
  · rw [service_running running,
      dispatchFirst_some (s := { s with stopped := false }) (firstIrq_eq_some set least) ime, andThen_assoc, ime]
    rfl

/-- Settles O49: each pending change is one branch of `applyPending`. -/
theorem pendingImeChange : Obligations.PendingImeChange := by
  intro s
  refine ⟨rfl, rfl, rfl, rfl, rfl, fun t h => ?_, fun t h => ?_⟩
  · cases h
    exact ⟨rfl, rfl, rfl⟩
  · cases h
    exact ⟨rfl, rfl, rfl⟩

end Sys2Proof.Claims
end

section
/-! The divider and the counter (60_exceptions.md R440-R443) on numbers, and the obligation they settle. -/

namespace Sys2Proof.Machine

/-! ### The divider and the counter (60_exceptions.md R440, R442) -/

/-- An overflow already seen is kept, and TIMA does not depend on it. -/
theorem countUp_overflowed (tma : Byte) (n : Nat) :
    ∀ tima ovf, countUp tma n tima ovf = ((countUp tma n tima false).1, ovf || (countUp tma n tima false).2) := by
  induction n with
  | zero => intro tima ovf; rw [countUp, countUp, Bool.or_false]
  | succ n ih =>
    intro tima ovf
    rw [countUp, countUp]
    split
    · rw [ih tma true, Bool.true_or, Bool.or_true]
    · exact ih (tima + 1#8) ovf

theorem countUp_succ (tma : Byte) (n : Nat) (tima : Byte) :
    countUp tma (n + 1) tima false =
      let r := countUp tma n (if tima = 0xFF#8 then tma else tima + 1#8) false
      (r.1, decide (tima = 0xFF#8) || r.2) := by
  rw [countUp]
  split
  · rename_i h
    rw [countUp_overflowed, h]
    rfl
  · rename_i h
    rw [decide_eq_false h]
    rfl

theorem timerRate_of_getElem? {tac : BitVec 3} {rate : Nat} (h : [1024, 16, 64, 256][tac.toNat % 4]? = some rate) :
    timerRate tac = rate ∧ 0 < rate := by
  have lt : tac.toNat % 4 < 4 := Nat.mod_lt _ (by decide)
  unfold timerRate
  generalize tac.toNat % 4 = k at h lt
  match k, lt, h with
  | 0, _, rfl | 1, _, rfl | 2, _, rfl | 3, _, rfl => exact ⟨rfl, by decide⟩

/-- Below its rate the counter only gathers cycles. -/
theorem tickCounter_below {c : Nat} {s : State} (enabled : s.timer.tac.getLsbD 2 = true)
    (h : s.timer.timaAcc + c < timerRate s.timer.tac) :
    tickCounter c s = (false, { s with timer := { s.timer with timaAcc := s.timer.timaAcc + c } }) := by
  unfold tickCounter
  dsimp only
  rw [if_pos enabled, Nat.div_eq_of_lt h, Nat.mod_eq_of_lt h]
  rfl

/-- At or above its rate the counter counts once, takes the rate off, and goes on. -/
theorem tickCounter_above {c : Nat} {s : State} (enabled : s.timer.tac.getLsbD 2 = true)
    (pos : 0 < timerRate s.timer.tac) (h : timerRate s.timer.tac ≤ s.timer.timaAcc + c) :
    tickCounter c s =
      let r :=
        tickCounter 0
          { s with
            timer :=
              { s.timer with
                tima := if s.timer.tima = 0xFF#8 then s.timer.tma else s.timer.tima + 1#8
                timaAcc := s.timer.timaAcc + c - timerRate s.timer.tac } }
      (decide (s.timer.tima = 0xFF#8) || r.1, r.2) := by
  unfold tickCounter
  dsimp only
  rw [if_pos enabled, if_pos enabled, Nat.div_eq_sub_div pos h, countUp_succ, Nat.mod_eq_sub_mod h]
  rfl

end Sys2Proof.Machine

namespace Sys2Proof.Claims

open Sys2Proof.Machine

/-- Settles O52: the divider is quotient and remainder by 256, and the counter takes its rate off once per count. -/
theorem dividerAndCounterTick : Obligations.DividerAndCounterTick := by
  intro c s
  refine ⟨⟨(s.timer.divAcc + c) / 256, (s.timer.divAcc + c) % 256, (Nat.div_add_mod _ 256).symm,
    Nat.mod_lt _ (by decide), ?_⟩, fun off => ?_, fun rate on selected => ?_, ?_⟩
  · rw [BitVec.ofNat_add, BitVec.ofNat_toNat, BitVec.setWidth_eq]
    rfl
  · exact if_neg (by rw [off]; exact nofun)
  · obtain ⟨rfl, pos⟩ := timerRate_of_getElem? selected
    exact ⟨tickCounter_below on, tickCounter_above on pos⟩
  · have flag := tickCounter_intFlag c s
    unfold tickCounterRequest
    dsimp only
    split
    · rw [flag]
      rfl
    · rw [← flag]

end Sys2Proof.Claims
end

section
/-! The scheduler's iteration, its collaborators and the fetch (30_encoding.md R194; 60_exceptions.md R450-R462), and the obligations they settle. -/

namespace Sys2Proof.Machine

/-! ### One iteration (60_exceptions.md R450, R452) -/

theorem step_running {s : State} (h : s.fault = none) : step s = frameStep (beginFrame s) := by
  rw [step, coreStep, unlessFaulted_running h]

theorem iteration_of_service {s u : State} {c : Nat} (fault : s.fault = none)
    (serviced : service (applyPending s) = .next (c, u)) :
    iteration s = andThen (runOrIdle u) fun t => .next (endIteration (c + t.cycles) t) := by
  rw [iteration, unlessFaulted_running fault, iterationBody, serviced, andThen_next]

theorem runOrIdle_awake {u : State} (halted : u.halted = false) (stopped : u.stopped = false) :
    runOrIdle u = andThen (executeOne u) fun t => .next (tickDivider t.cycles t) := if_pos ⟨halted, stopped⟩

theorem runOrIdle_asleep {u : State} (h : u.halted = true ∨ u.stopped = true) : runOrIdle u = .next (idle u) :=
  if_neg fun ⟨halted, stopped⟩ => by simp [halted, stopped] at h

/-- A service step that answers leaves the parameters and the frame total (R451). -/
theorem service_applyPending_run {s : State} {r : Nat × State} (h : service (applyPending s) = .next r) :
    r.2.params = s.params ∧ r.2.frameTotal = s.frameTotal := by
  have run := service_run h
  rw [applyPending_params, applyPending_frameTotal] at run
  exact ⟨run.1, run.2.1⟩

theorem executeOne_frameTotal {s t : State} (h : executeOne s = .next t) : t.frameTotal = s.frameTotal := by
  obtain ⟨r, fetched, run⟩ := andThen_eq_next h
  obtain ⟨n, hn⟩ := fetchInstr_next fetched
  rw [(exec_run run).2.1, hn]

/-- The end of an iteration, with the frame total the iteration began with. -/
theorem endIteration_eq {c n : Nat} {t : State} (h : t.frameTotal = n) :
    endIteration c t = { pixelTick (tickCounterRequest c t) with frameTotal := n + c } := by
  rw [endIteration, pixelTick_frameTotal, tickCounterRequest_frameTotal, h]

end Sys2Proof.Machine

namespace Sys2Proof.Claims

open Sys2Proof.Machine

/-- Settles O53: the parts of an iteration as `iteration_of_service` names them, over what each leaves of the frame
total. -/
theorem schedulerIteration : Obligations.SchedulerIteration := by
  intro s u c fault serviced
  obtain ⟨params, frameTotal⟩ := service_applyPending_run serviced
  rw [iteration_of_service fault serviced]
  refine ⟨fun t halted stopped ran => ?_, fun e halted stopped ran => ?_, fun asleep => ?_⟩
  · rw [runOrIdle_awake halted stopped, ran, andThen_next, andThen_next, tickDivider_cycles,
      endIteration_eq (t := tickDivider t.cycles t) ((executeOne_frameTotal ran).trans frameTotal)]
  · rw [runOrIdle_awake halted stopped, ran]
    rfl
  · have cycles : (idle u).cycles = 4 := by
      unfold idle
      dsimp only
      split <;> rfl
    rw [runOrIdle_asleep asleep, andThen_next, cycles, endIteration_eq ((idle_frameTotal u).trans frameTotal), idle, params]

/-- Settles O55: the values the two draw are the witnesses, the requests being masked. -/
theorem collaboratorsWriteOnlyTheirBits : Obligations.CollaboratorsWriteOnlyTheirBits := by
  intro s
  refine ⟨⟨Config.freeByte s.draws, (Config.freeByte (s.draws + 1)).extractLsb' 0 3,
    (Config.freeByte (s.draws + 1)).extractLsb' 3 5 &&& 0b00011#5, ?_, rfl⟩,
    ⟨(Config.freeByte s.draws).extractLsb' 0 4, _, ?_, rfl⟩⟩
  · rw [BitVec.and_assoc]
    exact BitVec.and_zero
  · split
    · rename_i h
      exact .inr ⟨rfl, h.1⟩
    · exact .inl rfl

/-- Settles O56: every way in goes through `unlessFaulted`. -/
theorem faultedCoreTakesNoStep : Obligations.FaultedCoreTakesNoStep := by
  intro s r h
  have stuck : step s = .fault (faultOf r s) := by rw [step, coreStep, unlessFaulted_faulted h]
  have frame (target : Nat) : runFrame target s = .fault (faultOf r s) := by rw [runFrame, unlessFaulted_faulted h]
  refine ⟨stuck, unlessFaulted_faulted h, frame, fun frames => ?_, fun ⟨t, ht⟩ => ?_⟩
  · rw [hostLoop, frame, andThen_fault]
  · rw [stuck] at ht
    cases ht

end Sys2Proof.Claims

namespace Sys2Proof.Machine

/-! ### Fetching the bytes of an instruction (30_encoding.md R192, R194) -/

/-- The state past `k` bytes fetched at PC, one draw each. -/
def State.past (k : Nat) (s : State) : State := { s with pc := s.pc + BitVec.ofNat 16 k, draws := s.draws + k }

theorem past_zero (s : State) : s.past 0 = s := by
  unfold State.past
  rw [BitVec.add_zero, Nat.add_zero]

theorem fetch8_past {s : State} {k : Nat} {v : Byte}
    (h : peek (Config.freeByte (s.draws + k)) (s.pc + BitVec.ofNat 16 k) s = some v) :
    fetch8 (s.past k) = .next (v, s.past (k + 1)) := by
  have shown : peek (Config.freeByte (s.past k).draws) (s.past k).pc (s.past k) = some v :=
    (peek_congr rfl rfl rfl rfl rfl rfl rfl rfl).trans h
  rw [fetch8_eq shown]
  unfold State.past
  rw [BitVec.ofNat_add, ← BitVec.add_assoc]
  rfl

/-- Where the bytes at PC are as many as the first asks for, the fetch reads them all and decodes them. -/
theorem fetchInstr_of_bytes {s : State} {op : Byte} {operands : List Byte}
    (len : instrLength op = operands.length + 1)
    (shown : ∀ k, k < (op :: operands).length →
      peek (Config.freeByte (s.draws + k)) (s.pc + BitVec.ofNat 16 k) s = (op :: operands)[k]?) :
    fetchInstr s = .next (decodeBytes op (operands.getD 0 0#8) (operands.getD 1 0#8), s.past (operands.length + 1)) := by
  have first : fetch8 s = .next (op, s.past 1) := by
    rw [← fetch8_past (shown 0 (Nat.zero_lt_succ _)), past_zero]
  unfold fetchInstr
  rw [first, andThen_next]
  dsimp only
  match operands with
  | [] => rw [len]; rfl
  | [b1] =>
    rw [len]
    show andThen (fetch8 (s.past 1)) _ = _
    rw [fetch8_past (shown 1 (by simp))]
    rfl
  | [b1, b2] =>
    rw [len]
    show andThen (fetch8 (s.past 1)) _ = _
    rw [fetch8_past (shown 1 (by simp)), andThen_next]
    rw [fetch8_past (shown 2 (by simp))]
    rfl
  | _ :: _ :: _ :: _ =>
    have := instrLength_cases op
    simp only [List.length_cons] at len
    omega

end Sys2Proof.Machine

namespace Sys2Proof.Claims

open Sys2Proof.Machine

/-- A list that decodes to a whole instruction with nothing left is its encoding: the bytes its first byte asks for. -/
theorem bytes_of_decode {bs : List Byte} {i : Instr} (whole : i.wellFormed = true) (h : decode bs = .ok (i, [])) :
    ∃ op operands, bs = op :: operands ∧ instrLength op = operands.length + 1 ∧
      decodeBytes op (operands.getD 0 0#8) (operands.getD 1 0#8) = i := by
  have encoded := everyByteSequenceDecodes.2 bs i [] h
  rw [List.append_nil] at encoded
  rw [encoded]
  exact decodeBytes_encode whole

/-- Settles O35: the fetch reads the encoding, so an awake iteration is `exec` of what was decoded. -/
theorem stepRunsTheDecodedInstruction : Obligations.StepRunsTheDecodedInstruction := by
  intro s u c i bs fault pos serviced halted stopped whole decoded shown
  obtain ⟨op, operands, rfl, len, rfl⟩ := bytes_of_decode whole decoded
  have begun : (beginFrame s).fault = none := by rw [beginFrame_fault, fault]
  rw [step_running fault, frameStep_beginFrame_pos pos, iterationThenInput, iteration_of_service begun serviced,
    runOrIdle_awake halted stopped, executeOne, fetchInstr_of_bytes len shown, andThen_next, andThen_assoc, andThen_assoc]
  simp only [andThen_next, tickDivider_cycles]
  rfl

end Sys2Proof.Claims
end

section
/-! Frames and sessions as runs of steps (60_exceptions.md R451, R463; 70_reset_and_hazards.md R480-R482), and the obligations they settle. -/

namespace Sys2Proof.Machine

/-! ### The loop of a frame (60_exceptions.md R451) -/

/-- With fuel for the cycles the frame lacks, the loop ends at or past its target, by less than one iteration. -/
theorem frameLoop_ends {target : Nat} (fuel : Nat) : ∀ {s t : State}, frameLoop fuel target s = .next t →
    target ≤ s.frameTotal + fuel → s.frameTotal ≤ target + 43 → target ≤ t.frameTotal ∧ t.frameTotal ≤ target + 43 := by
  induction fuel with
  | zero =>
    intro s t h enough bound
    cases h
    exact ⟨enough, bound⟩
  | succ fuel ih =>
    intro s t h enough bound
    rw [frameLoop] at h
    split at h
    · obtain ⟨u, iterated, rest⟩ := andThen_eq_next h
      obtain ⟨_, _, least, most⟩ := iterationThenInput_run iterated
      exact ih rest (by omega) (by omega)
    · cases h
      exact ⟨by omega, bound⟩

theorem runFrame_running {target : Nat} {s : State} (h : s.fault = none) :
    runFrame target s = frameLoop target target { s with frameTotal := 0 } := by
  rw [runFrame, unlessFaulted_running h]

/-! ### A frame as a run of steps (R463; notes/assumptions/9.md) -/

/-- A step inside a frame is one round of its loop. -/
theorem step_inside {s : State} (fault : s.fault = none) (h : s.frameTotal < s.params.frameCycles) :
    step s = iterationThenInput s := by
  rw [step_running fault, beginFrame, if_neg (by omega), frameStep, if_pos h]

/-- The state stands between two frames: none has begun, or the last one's budget is spent. -/
def BetweenFrames (s : State) : Prop := s.frameTotal = 0 ∨ s.params.frameCycles ≤ s.frameTotal

/-- A step between two frames is one from the total 0. -/
theorem step_between {s : State} (fault : s.fault = none)
    (h : BetweenFrames s) : step s = step { s with frameTotal := 0 } := by
  obtain h | h := h
  · rw [← h]
  · rw [step_running fault, step_running (s := { s with frameTotal := 0 }) fault, beginFrame, if_pos h, beginFrame, ite_self]

/-- The loop of a frame is a run of steps, and of at least one where it runs an iteration. -/
theorem frameLoop_eq_steps (fuel : Nat) : ∀ {s : State}, s.fault = none →
    ∃ k, (0 < fuel → s.frameTotal < s.params.frameCycles → 1 ≤ k) ∧
      frameLoop fuel s.params.frameCycles s = steps k s := by
  induction fuel with
  | zero => exact fun _ => ⟨0, nofun, rfl⟩
  | succ fuel ih =>
    intro s fault
    by_cases inside : s.frameTotal < s.params.frameCycles
    · rw [frameLoop, if_pos inside, ← step_inside fault inside]
      cases hs : step s with
      | next t =>
        obtain ⟨params, fault', _⟩ := iterationThenInput_run ((step_inside fault inside).symm.trans hs)
        obtain ⟨k, _, hk⟩ := ih fault'
        refine ⟨k + 1, fun _ _ => Nat.le_add_left 1 k, ?_⟩
        rw [steps, hs, andThen_next, andThen_next, ← hk, params]
      | fault e => exact ⟨1, fun _ _ => Nat.le_refl 1, by rw [steps, hs]; rfl⟩
      | refused e => exact ⟨1, fun _ _ => Nat.le_refl 1, by rw [steps, hs]; rfl⟩
    · exact ⟨0, fun _ h => absurd h inside, if_neg inside⟩

/-- `run_frame(FRAME_CYCLES)` between two frames is a run of steps; with FRAME_CYCLES = 0 it is one empty step. -/
theorem runFrame_eq_steps {s : State} (fault : s.fault = none) (between : BetweenFrames s) :
    ∃ k, 1 ≤ k ∧ runFrame s.params.frameCycles s = steps k s := by
  rw [runFrame_running fault]
  obtain zero | pos := Nat.eq_zero_or_pos s.params.frameCycles
  · refine ⟨1, Nat.le_refl 1, ?_⟩
    rw [steps, step_running fault, frameStep_beginFrame_zero zero, zero]
    rfl
  · obtain ⟨k, least, hk⟩ := frameLoop_eq_steps s.params.frameCycles (s := { s with frameTotal := 0 }) fault
    obtain ⟨k, rfl⟩ := Nat.exists_eq_add_of_le' (least pos pos)
    refine ⟨k + 1, Nat.le_add_left 1 k, hk.trans ?_⟩
    rw [steps, steps, ← step_between fault between]

theorem frameLoop_run {target : Nat} (fuel : Nat) : ∀ {s t : State}, frameLoop fuel target s = .next t →
    s.fault = none → t.params = s.params ∧ t.fault = none := by
  induction fuel with
  | zero =>
    intro s t h fault
    cases h
    exact ⟨rfl, fault⟩
  | succ fuel ih =>
    intro s t h fault
    rw [frameLoop] at h
    split at h
    · obtain ⟨u, iterated, rest⟩ := andThen_eq_next h
      obtain ⟨params, fault', _⟩ := iterationThenInput_run iterated
      exact ⟨(ih rest fault').1.trans params, (ih rest fault').2⟩
    · cases h
      exact ⟨rfl, fault⟩

/-- A frame that ends leaves a running core between two frames. -/
theorem runFrame_next {s t : State} (h : runFrame s.params.frameCycles s = .next t) :
    t.fault = none ∧ BetweenFrames t := by
  obtain ⟨fault, _⟩ := unlessFaulted_next h
  rw [runFrame_running fault] at h
  obtain ⟨params, fault'⟩ := frameLoop_run _ h fault
  obtain ⟨spent, _⟩ := frameLoop_ends _ h (Nat.le_add_left _ _) (Nat.zero_le _)
  exact ⟨fault', .inr (by rw [params]; exact spent)⟩

/-- The host loop is a run of at least as many steps as it has frames, to the same state or the same fault. -/
theorem hostLoop_eq_steps (frames : Nat) : ∀ {s : State}, s.fault = none → BetweenFrames s →
    ∃ k, frames ≤ k ∧ hostLoop frames s = steps k s := by
  induction frames with
  | zero => exact fun _ _ => ⟨0, Nat.le_refl 0, rfl⟩
  | succ frames ih =>
    intro s fault between
    obtain ⟨k, least, hk⟩ := runFrame_eq_steps fault between
    cases hr : runFrame s.params.frameCycles s with
    | next t =>
      obtain ⟨fault', between'⟩ := runFrame_next hr
      obtain ⟨k', least', hk'⟩ := ih fault' between'
      refine ⟨k + k', by omega, ?_⟩
      rw [hostLoop, steps_add, ← hk, hr, andThen_next, andThen_next, hk']
    | fault e | refused e =>
      refine ⟨k + frames, by omega, ?_⟩
      rw [hostLoop, steps_add, ← hk, hr]
      rfl

/-! ### The start of a session (20_memory.md R150; 70_reset_and_hazards.md R480-R482) -/

/-- What the loader accepts and builds. -/
theorem load_eq_ok {types : CartTypeMap} {img : List Byte} {c : Cart} (h : load types img = .ok c) :
    ∃ variant, c = Cart.ofImage variant (imageCells 0 img) img.length ∧ 0x148 ≤ img.length ∧
      img.length ≤ romLimit variant := by
  unfold load at h
  split at h
  · cases h
  · rename_i long
    dsimp only at h
    split at h
    · cases h
    · rename_i variant _
      split at h
      · cases h
      · rename_i fits
        cases h
        exact ⟨variant, rfl, by omega, by omega⟩

/-- A core powered up around a loaded controller has the invariant. -/
theorem powerUp_inv {types : CartTypeMap} {img : List Byte} {c : Cart} (h : load types img = .ok c) (v : PostBoot)
    (params : Params) : (powerUp v (State.constructed c params)).Inv := by
  obtain ⟨variant, rfl, small, large⟩ := load_eq_ok h
  exact
    { ramWf := rfl, ramKeys := rfl, cramWf := rfl, cramKeys := rfl
      romWf := wfRom_imageCells img, romMin := small, romMax := large
      romLow := (by decide : 1#5 ≠ 0#5), romMode := fun _ => rfl
      divAcc := Nat.zero_lt_succ _, oneSleep := nofun, noFault := rfl }

theorem startSession_eq_ok {types : CartTypeMap} {v : PostBoot} {params : Params} {img : List Byte} {s : State}
    (h : startSession types v params img = .ok s) :
    ∃ c, load types img = .ok c ∧ s = powerUp v (State.constructed c params) := by
  unfold startSession at h
  split at h
  · cases h
  · rename_i c loaded
    cases h
    exact ⟨c, loaded, rfl⟩

end Sys2Proof.Machine

namespace Sys2Proof.Claims

open Sys2Proof.Machine

/-- Settles O54: an iteration takes from 4 to 44 cycles, and the last one of a frame begins below the target. -/
theorem frameEndsWithBoundedOvershoot : Obligations.FrameEndsWithBoundedOvershoot := by
  intro target s t h
  obtain ⟨fault, _⟩ := unlessFaulted_next h
  rw [runFrame_running fault] at h
  obtain ⟨least, most⟩ := frameLoop_ends target h (Nat.le_add_left _ _) (Nat.zero_le _)
  refine ⟨least, most, ?_⟩
  rintro rfl
  cases h
  rfl

/-- Settles O57: the values are those `power_up` writes over the constructed state, around what the loader builds. -/
theorem resetValues : Obligations.ResetValues :=
  ⟨rfl, rfl, rfl, rfl, rfl, rfl, rfl, rfl, rfl, rfl, rfl, rfl, rfl, rfl, rfl, rfl, rfl, rfl, rfl, rfl, rfl, rfl, rfl,
    rfl, rfl, rfl, rfl, fun _ _ => ⟨rfl, rfl, rfl, rfl, rfl⟩,
    fun _ _ _ _ => ⟨fun _ => startSession_of_load_error, fun _ => startSession_of_load_ok⟩,
    startSession_of_load_ok load_resetImage⟩

/-- Settles O58: the reset state is a core powered up around the controller the loader builds from its image. -/
theorem resetMeetsTheInvariant : Obligations.ResetMeetsTheInvariant :=
  powerUp_inv load_resetImage defaultPostBoot defaultParams

/-- Settles O60: a frame is a run of steps that ends between two frames, so the host loop is one too. -/
theorem sessionIsARunOfSteps : Obligations.SessionIsARunOfSteps := by
  refine ⟨fun types v params img frames => ⟨fun e failed => ?_, fun s started => ?_⟩,
    fun frames s fault between => hostLoop_eq_steps frames fault between, fun s fault zero => ?_⟩
  · rw [runSession, failed]
  · obtain ⟨c, loaded, rfl⟩ := startSession_eq_ok started
    obtain ⟨k, least, hk⟩ := hostLoop_eq_steps frames (s := powerUp v (State.constructed c params)) rfl (.inl rfl)
    exact ⟨powerUp_inv loaded v params, k, least, by rw [runSession, started]; exact congrArg Except.ok hk⟩
  · rw [step_running fault, frameStep_beginFrame_zero zero]

end Sys2Proof.Claims
end
